-- ==== Sys2Proof/Word.lean ====
section
/-! DEFINITION. The words the block holds (spec/00_scope.md R6, R7): every register is a `u32`, there are no signed values.
Slots of the register file are numbered 0 to 15 (spec/10_state.md R21). -/

namespace Sys2Proof

/-- A `u32`: a host register, a command word or a counter value (R7, R8: arithmetic on it wraps modulo 2^32). -/
abbrev Word := BitVec 32

/-- Bits 7:0 of a command word (R80). -/
abbrev Opcode := BitVec 8

/-- The index of a register slot (R21). -/
abbrev Slot := Fin 16

end Sys2Proof
end

