-- ==== Sys2Proof/Syntax.lean ====
section
/-! DEFINITION. The command set (spec/30_encoding.md R84), and the syntax of what the agents may do: steps of the
environment (spec/20_memory.md R68), accesses of the host (R64, R65, R9), statements of a host program
(spec/30_encoding.md R91), and one action of a run (spec/00_scope.md R10, spec/70_reset_and_hazards.md R240). -/

namespace Sys2Proof

/-- The eight commands, one constructor per row of the opcode table (R84). -/
inductive Instr where
  /-- INIT, 0x01: validate the configuration (R180). -/
  | init
  /-- TRIGGER, 0x02: emit one trigger pulse (R106). -/
  | trigger
  /-- WAIT_EDGE L, 0x03: wait until the echo line reads `level`, or time out (R125). -/
  | waitEdge (level : Bool)
  /-- TIMER_START, 0x04: reset the external timer and start it (R145). -/
  | timerStart
  /-- TIMER_STOP_READ, 0x05: stop the external timer and read its count (R146). -/
  | timerStopRead
  /-- TO_CM, 0x06: convert OPERAND_US to centimetres (R163). -/
  | toCm
  /-- MEASURE_US, 0x07: trigger, time the echo pulse, return microseconds (R182). -/
  | measureUs
  /-- MEASURE_CM, 0x08: MEASURE_US followed by the distance conversion (R183). -/
  | measureCm
  deriving DecidableEq, Repr, Inhabited

/-- One step of the environment agent (R68). -/
inductive EnvStep where
  /-- `EnvCyc(k)`: the cycle counter advances by `k`. -/
  | cyc (k : Nat)
  /-- `EnvTmr(k)`: the timer advances by `k`, enabled only while it runs. -/
  | tmr (k : Nat)
  /-- `EnvEcho(b)`: the echo line takes level `b`. -/
  | echo (level : Bool)
  deriving DecidableEq, Repr, Inhabited

/-- One access of the host to the block (R9, R64, R65). -/
inductive HostAccess where
  /-- `RegRead(i)` (R64). -/
  | regRead (i : Slot)
  /-- `RegWrite(i, v)` (R65). -/
  | regWrite (i : Slot) (v : Word)
  /-- `MemRead(addr, n)`: a bus read of `n` bytes at byte address `addr` (R62). -/
  | memRead (addr n : Nat)
  /-- `MemWrite(addr, n, v)`: a bus write of `n` bytes at byte address `addr` (R62). -/
  | memWrite (addr n : Nat) (v : Word)
  deriving DecidableEq, Repr, Inhabited

/-- One statement of a host program (R91). -/
inductive HostStmt where
  /-- `WR <REG>, <value>`. -/
  | wr (i : Slot) (v : Word)
  /-- `RD <REG>`. -/
  | rd (i : Slot)
  /-- `<command>`: `WR CMD, <its word>`. -/
  | command (i : Instr)
  /-- `WAITIDLE`: repeat `RD STATUS` until bit 0 reads 0. -/
  | waitIdle
  deriving DecidableEq, Repr, Inhabited

/-- What happens next in a run: a step of one of the three agents (R10), or the reset event (R240). -/
inductive AgentAction where
  /-- CORE takes its step. -/
  | core
  /-- ENV takes the step given. -/
  | env (e : EnvStep)
  /-- HOST makes the access given. -/
  | host (h : HostAccess)
  /-- HOST executes the next statement of its host program (R91). -/
  | program
  /-- The reset event. -/
  | reset
  deriving DecidableEq, Repr, Inhabited

end Sys2Proof
end

