-- ==== Sys2Proof/Config.lean ====
section
/-! DEFINITION. What an implementation fixes and what the spec leaves open (spec/00_scope.md R6,
spec/93_implementation_defined.md part 1). A constant declared `opaque` has no body: nothing can be proved of its value,
so a claim that holds of the model holds whatever it is. -/

namespace Sys2Proof

/-- TIMER_WIDTH, the width of the external timer's count: 32 (R6, R46). DESIGN CHOICE log 5: a narrower timer is another
value of this parameter. -/
abbrev Config.timerWidth : Nat := 32

/-- BLOCK_BASE is a multiple of 64 (R61); this free number is that multiple. DESIGN CHOICE log 4. -/
opaque Config.blockBaseIndex : Nat

/-- BLOCK_BASE, the byte address of slot 0 on the host bus (R61). -/
def Config.blockBase : Nat := 64 * Config.blockBaseIndex

/-- SETTLE_US, the sensor's settling interval in microseconds: OPEN, a host duty the block does not enforce (R254).
Log 16. -/
opaque Config.settleUs : Nat

/-- The level of the echo line at power-on: unspecified, the environment's (R55). DESIGN CHOICE log 1. -/
opaque Config.powerOnEcho : Bool

/-- The cycle counter at power-on: any `u32` (R55, R241). DESIGN CHOICE log 1. -/
opaque Config.powerOnCyccnt : Word

/-- The timer's count at power-on: any value (R55, R241, R147). DESIGN CHOICE log 1. -/
opaque Config.powerOnTmrCnt : BitVec Config.timerWidth

/-- Whether the timer counts at power-on: 0 or 1 (R55, R241). DESIGN CHOICE log 1. -/
opaque Config.powerOnTmrRun : Bool

/-- `to_us(k)` when TICK_HZ is 0, for which R144 states no result because V has checked `tick_ok`. DESIGN CHOICE log 6. -/
opaque Config.freeUsAtZeroRate : Word → Word

/-- The action that comes next where the script names none: any action of any agent may (R10, R69, R207). The argument
counts the choices made so far. DESIGN CHOICE log 2. -/
opaque Config.freeAction : Nat → AgentAction

end Sys2Proof
end

