-- ==== Sys2Proof/WellFormed.lean ====
section
/-! DEFINITION. Which terms of the syntax the spec admits: legal command words (spec/30_encoding.md R85), enabled
environment steps (spec/20_memory.md R68) and admitted bus accesses (R62). -/

namespace Sys2Proof

/-- `Legal(w)` of R85, written as there: reserved bits zero, a defined opcode, and LEVEL only on WAIT_EDGE. -/
def legalWord (w : Word) : Bool :=
  w.extractLsb' 9 23 == 0#23
    && (1 ≤ (w.extractLsb' 0 8).toNat && (w.extractLsb' 0 8).toNat ≤ 8)
    && (!w.getLsbD 8 || w.extractLsb' 0 8 == 0x03#8)

/-- Every term of `Instr` is a command: no constructor has a field with a value its encoding cannot hold (R84, R88). -/
def Instr.wf : Instr → Bool
  | .init => true
  | .trigger => true
  | .waitEdge _ => true
  | .timerStart => true
  | .timerStopRead => true
  | .toCm => true
  | .measureUs => true
  | .measureCm => true

/-- The environment's counter steps advance by at least one (R68). -/
def EnvStep.wf : EnvStep → Bool
  | .cyc k => 1 ≤ k
  | .tmr k => 1 ≤ k
  | .echo _ => true

/-- The one bus access R62 admits: 4 bytes at `BLOCK_BASE + 4·i` with `0 ≤ i ≤ 15`. -/
def busAdmitted (addr n : Nat) : Bool :=
  n == 4 && (Config.blockBase ≤ addr && addr < Config.blockBase + 64) && (addr - Config.blockBase) % 4 == 0

/-- A host access has a step when it is a register access, or an admitted bus access (R62). -/
def HostAccess.wf : HostAccess → Bool
  | .regRead _ => true
  | .regWrite _ _ => true
  | .memRead addr n => busAdmitted addr n
  | .memWrite addr n _ => busAdmitted addr n

/-- An action is well formed when its agent's step is. -/
def AgentAction.wf : AgentAction → Bool
  | .core => true
  | .env e => e.wf
  | .host h => h.wf
  | .program => true
  | .reset => true

end Sys2Proof
end

