-- ==== Sys2Proof/Decode.lean ====
section
/-! DEFINITION. Decoding a command word (spec/30_encoding.md R80–R87), the encoder (R84), and the assembler's text
(R89, R90). Decoding is total: every 32-bit word is one command or is rejected by name. -/

namespace Sys2Proof

/-- Why a word is no command. The block reports all three alike, as ILLEGAL_COMMAND (R86, R203); the names are the
model's own (DESIGN CHOICE log 8). -/
inductive DecodeError where
  /-- A bit of RSV (31:9) is set (R83). -/
  | reservedBits
  /-- OPC is not one of 0x01 to 0x08 (R81). -/
  | undefinedOpcode
  /-- LEVEL is set on a command other than WAIT_EDGE (R82). -/
  | levelNotAllowed
  deriving DecidableEq, Repr

/-- RSV, bits 31:9 (R80). -/
def rsvOf (w : Word) : BitVec 23 := w.extractLsb' 9 23

/-- LEVEL, bit 8 (R80). -/
def levelOf (w : Word) : Bool := w.getLsbD 8

/-- OPC, bits 7:0 (R80). -/
def opcOf (w : Word) : Opcode := w.extractLsb' 0 8

/-- The command an opcode selects (R81, R84); LEVEL is read only by WAIT_EDGE (R82). -/
def ofOpcode (opc : Opcode) (level : Bool) : Option Instr :=
  match opc.toNat with
  | 1 => some .init
  | 2 => some .trigger
  | 3 => some (.waitEdge level)
  | 4 => some .timerStart
  | 5 => some .timerStopRead
  | 6 => some .toCm
  | 7 => some .measureUs
  | 8 => some .measureCm
  | _ => none

/-- The command a word stands for, or why it stands for none (R85, R87). -/
def decode (w : Word) : Except DecodeError Instr :=
  if rsvOf w = 0 then
    match ofOpcode (opcOf w) (levelOf w) with
    | none => .error .undefinedOpcode
    | some i => if levelOf w = true ∧ opcOf w ≠ 0x03 then .error .levelNotAllowed else .ok i
  else .error .reservedBits

/-- The opcode of a command (R84). -/
def opcode : Instr → Opcode
  | .init => 0x01
  | .trigger => 0x02
  | .waitEdge _ => 0x03
  | .timerStart => 0x04
  | .timerStopRead => 0x05
  | .toCm => 0x06
  | .measureUs => 0x07
  | .measureCm => 0x08

/-- The LEVEL field of a command: WAIT_EDGE's operand, 0 for every other (R80, R82). -/
def levelField : Instr → Bool
  | .init => false
  | .trigger => false
  | .waitEdge level => level
  | .timerStart => false
  | .timerStopRead => false
  | .toCm => false
  | .measureUs => false
  | .measureCm => false

/-- The command word: RSV = 0, LEVEL, OPC (R80, R84). -/
def encode (i : Instr) : Word := (0#23 ++ BitVec.ofBool (levelField i)) ++ opcode i

/-- One row of the opcode map as R85 writes it: `w & mask = value`. -/
structure OpcodeRow where
  mnemonic : String
  value : Word
  mask : Word
  deriving DecidableEq, Repr

/-- The match and mask pairs of R85, in the order of R84. -/
def opcodeRows : List OpcodeRow :=
  [⟨"INIT", 0x00000001, 0xFFFFFFFF⟩,
   ⟨"TRIGGER", 0x00000002, 0xFFFFFFFF⟩,
   ⟨"WAIT_EDGE", 0x00000003, 0xFFFFFEFF⟩,
   ⟨"TIMER_START", 0x00000004, 0xFFFFFFFF⟩,
   ⟨"TIMER_STOP_READ", 0x00000005, 0xFFFFFFFF⟩,
   ⟨"TO_CM", 0x00000006, 0xFFFFFFFF⟩,
   ⟨"MEASURE_US", 0x00000007, 0xFFFFFFFF⟩,
   ⟨"MEASURE_CM", 0x00000008, 0xFFFFFFFF⟩]

/-- Whether a row accepts a word (R85). -/
def rowAccepts (r : OpcodeRow) (w : Word) : Bool := w &&& r.mask == r.value

/-- A command's mnemonic (R84). -/
def mnemonic : Instr → String
  | .init => "INIT"
  | .trigger => "TRIGGER"
  | .waitEdge _ => "WAIT_EDGE"
  | .timerStart => "TIMER_START"
  | .timerStopRead => "TIMER_STOP_READ"
  | .toCm => "TO_CM"
  | .measureUs => "MEASURE_US"
  | .measureCm => "MEASURE_CM"

/-- The statements of the assembler and the command each stands for, the pseudo-instructions among them (R89, R90). -/
def assemblyTable : List (String × Instr) :=
  [("INIT", .init), ("TRIGGER", .trigger), ("WAIT_EDGE 0", .waitEdge false), ("WAIT_EDGE 1", .waitEdge true),
   ("TIMER_START", .timerStart), ("TIMER_STOP_READ", .timerStopRead), ("TO_CM", .toCm), ("MEASURE_US", .measureUs),
   ("MEASURE_CM", .measureCm), ("WAIT_RISE", .waitEdge true), ("WAIT_FALL", .waitEdge false)]

/-- The word of an assembler statement, where it is one (R89, R90). -/
def assemble (text : String) : Option Word :=
  (assemblyTable.lookup text).map encode

/-- The instruction the decoder reads from a word of the opcode table: the table's numbering is the command word's own,
one 32-bit word (R80, R92). A number with a bit beyond bit 31 is no command word. -/
def decodeTableWord (nbits w : Nat) : Option Instr :=
  if w % 2 ^ nbits < 2 ^ 32 then
    match decode (BitVec.ofNat 32 (w % 2 ^ nbits)) with
    | .ok i => some i
    | .error _ => none
  else none

end Sys2Proof
end

