-- ==== Sys2Proof/Machine/State.lean ====
section
/-! DEFINITION. The state of the system in the three parts of spec/10_state.md R20 (register file, sequencer, external
collaborators), with the agents' inputs beside them; why a step may stop; and the state after reset (R55). -/

namespace Sys2Proof.Machine

/-- STATUS.STATE (R24). Code 7 is never produced and has no constructor. -/
inductive Phase where
  | idle | triggering | awaitingRisingEdge | measuring | awaitingFallingEdge | complete | error
  deriving DecidableEq, Repr

/-- STATUS.ERR (R25, R205). -/
inductive ErrKind where
  | noError | timeout | invalidConfig | illegalCommand
  deriving DecidableEq, Repr

/-- The labels of the micro-program counter (R40); `bot` is `⊥`, no command runs. -/
inductive Label where
  | bot | v | t1 | t2 | t3 | t4 | w1 | w2 | w3 | s1 | s2 | p1 | p2 | x1 | c1
  deriving DecidableEq, Repr

/-- STATUS, slot 1, field by field (R23–R30). -/
structure Status where
  /-- BUSY, 1 while a command runs (R30). -/
  busy : Bool
  /-- STATE, the measurement state (R24). -/
  state : Phase
  /-- ERR, the error kind of the last command (R25). -/
  err : ErrKind
  /-- STAGE, which wait timed out: false rising, true falling (R26). -/
  stage : Bool
  /-- INIT_OK, configuration last validated by INIT (R27). -/
  initOk : Bool
  /-- FAULT, sticky host-protocol violation (R28). -/
  fault : Bool
  /-- LAST_OP, opcode of the last finished or rejected command (R29). -/
  lastOp : Opcode
  deriving DecidableEq, Repr

/-- The other defined slots of the register file (R21). -/
structure RegFile where
  /-- CMD, slot 0: the last accepted command word (R22). -/
  cmd : Word
  /-- CLK_HZ, slot 2: core clock frequency in Hz (R31). -/
  clkHz : Word
  /-- TICK_HZ, slot 3: timer tick rate in Hz (R32). -/
  tickHz : Word
  /-- TIMEOUT_US, slot 4: bound of each wait in microseconds (R33). -/
  timeoutUs : Word
  /-- OPERAND_US, slot 5: the input of TO_CM (R34). -/
  operandUs : Word
  /-- RESULT_TICKS, slot 6: raw count of the last stop-and-read (R35). -/
  resultTicks : Word
  /-- RESULT_US, slot 7: elapsed microseconds of the last stop-and-read (R36). -/
  resultUs : Word
  /-- RESULT_CM, slot 8: binary32 pattern of the last distance (R37). -/
  resultCm : Word
  /-- PINS.TRIG, slot 9 bit 0: the level driven on the trigger line (R38). -/
  pinsTrig : Bool
  /-- PINS.ECHO_SEEN, slot 9 bit 1: the last echo sample (R38). -/
  echoSeen : Bool
  deriving DecidableEq, Repr

/-- The sequencer: the micro-program counter and its latches (R40, R41). -/
structure Sequencer where
  /-- uPC (R40). -/
  uPC : Label
  /-- The running command's opcode. -/
  op : Opcode
  /-- The target echo level of the current wait. -/
  lvl : Bool
  /-- N, the trigger length in cycles (R50). -/
  n : Word
  /-- TO_CYC, the timeout bound in cycles (R51). -/
  toCyc : Word
  /-- The cycle counter at the start of the current wait. -/
  c0 : Word
  deriving DecidableEq, Repr

/-- What the ports reach (R42). -/
structure External where
  /-- `trig_line`, driven by the block only (R43). -/
  trigLine : Bool
  /-- `echo_line`, driven by ENV only (R44). -/
  echoLine : Bool
  /-- `cyccnt`, the free-running cycle counter (R45). -/
  cyccnt : Word
  /-- `tmr_cnt`, the timer's count (R46). -/
  tmrCnt : BitVec Config.timerWidth
  /-- `tmr_run`, whether the timer counts (R46). -/
  tmrRun : Bool
  deriving DecidableEq, Repr

/-- The inputs of the run, the model's own and not the block's (DESIGN CHOICE log 2, log 3). -/
structure World where
  /-- The actions to come, in their order; empty means any action may come. -/
  script : List AgentAction
  /-- How many free choices of an action have been made. -/
  draws : Nat
  /-- The statements the host has still to execute (R91). -/
  program : List HostStmt
  /-- What the host's last read returned, if it has read (R64). -/
  hostData : Option Word
  deriving DecidableEq, Repr

/-- The whole state (R20, R48). -/
structure State where
  status : Status
  regs : RegFile
  seq : Sequencer
  ext : External
  world : World
  deriving DecidableEq, Repr

/-- Why the machine stops. Both name states that no run from reset reaches (log 7): safe. -/
inductive Fault where
  /-- A command's meaning at a label its micro-program does not have; raised by the meanings. The spec gives no
  micro-step there. Safe: the machine stops. -/
  | strayLabel
  /-- CORE is to step but `op` holds no command's opcode; raised by `coreTurn`. Safe: the machine stops. -/
  | noCommandLatched
  deriving DecidableEq, Repr

/-- Why an action has no meaning. -/
inductive Refusal where
  /-- A command without a meaning yet, named as the opcode table names it; raised by `exec` only. Safe. -/
  | notModelled (mnemonic : String)
  /-- A bus access that R62 does not admit: it has no step; raised by `busRead` and `busWrite`. Safe. -/
  | busAccessNotAdmitted
  deriving DecidableEq, Repr

/-- STATUS after reset: 0x00000000 (R55). -/
def Status.reset : Status :=
  { busy := false, state := .idle, err := .noError, stage := false, initOk := false, fault := false, lastOp := 0 }

/-- The register file after reset (R55): TICK_HZ is 1 000 000, TIMEOUT_US is 50 000, everything else 0. -/
def RegFile.reset : RegFile :=
  { cmd := 0, clkHz := 0, tickHz := 0x000F4240, timeoutUs := 0x0000C350, operandUs := 0
    resultTicks := 0, resultUs := 0, resultCm := 0, pinsTrig := false, echoSeen := false }

/-- The sequencer after reset (R55). -/
def Sequencer.reset : Sequencer :=
  { uPC := .bot, op := 0, lvl := false, n := 0, toCyc := 0, c0 := 0 }

/-- The collaborators at power-on: the trigger line is driven low, everything else is unspecified and so a free constant
(R55, R241). DESIGN CHOICE log 1. -/
def External.powerOn : External :=
  { trigLine := false, echoLine := Config.powerOnEcho, cyccnt := Config.powerOnCyccnt
    tmrCnt := Config.powerOnTmrCnt, tmrRun := Config.powerOnTmrRun }

/-- No action is laid down, no choice made, no host program given and nothing read. DESIGN CHOICE log 2, log 3. -/
def World.start : World := { script := [], draws := 0, program := [], hostData := none }

/-- The machine right after reset (R55, R240). -/
def State.reset : State :=
  { status := Status.reset, regs := RegFile.reset, seq := Sequencer.reset, ext := External.powerOn, world := World.start }

end Sys2Proof.Machine
end

