-- ==== Sys2Proof/Machine/Binary32.lean ====
section
/-! DEFINITION. Binary32 and rounding to it (spec/43_distance.md R160, R161; spec/10_state.md R37), computed on natural
numbers, and the rational value of a pattern, which the statements about rounding speak of. -/

namespace Sys2Proof.Machine

/-- `a / d` rounded to the nearest natural number, ties to the even one (R161). -/
def divNearestEven (a d : Nat) : Nat :=
  let q := a / d
  let r := a % d
  if 2 * r < d then q else if d < 2 * r then q + 1 else if q % 2 = 0 then q else q + 1

/-- The exponent step of `num / den`: `floor(log2 (num / den)) + 126`, and 0 for everything below `2^-126`, so that the
spacing of binary32 values around the quotient is `2^(step − 149)` (R161). -/
def exponentStep (num den : Nat) : Nat := (num * 2 ^ 126 / den).log2

/-- `RNE32(num / den)` (R161): the quotient is rounded once, to a whole multiple `m` of the spacing; the pattern
`step × 2^23 + m` carries into the exponent by itself when `m` reaches `2^24`. No pattern above the largest finite one is
produced (R161: the nearest of the finite values; log 9). -/
def rne32 (num den : Nat) : Word :=
  let step := exponentStep num den
  let m := divNearestEven (num * 2 ^ 149) (den * 2 ^ step)
  BitVec.ofNat 32 (min (step * 2 ^ 23 + m) 0x7F7FFFFF)

/-- `to_cm(us) = RNE32(us / 58)` (R160); `RNE32(0)` is +0.0 (R161). -/
def toCmBits (us : Word) : Word :=
  match us.toNat with
  | 0 => 0x00000000
  | k + 1 => rne32 (k + 1) 58

/-- The biased exponent, bits 30:23 (R161). -/
def expField (p : Word) : Nat := (p.extractLsb' 23 8).toNat

/-- The fraction, bits 22:0 (R161). -/
def fracField (p : Word) : Nat := (p.extractLsb' 0 23).toNat

/-- The value of a finite binary32 pattern (R161); a pattern with exponent 255 has none. The value for exponent 0 with a
nonzero fraction is IEEE 754's, which R161 does not write out (PRESUMED log 9). -/
def binary32Value (p : Word) : Option ℚ :=
  if expField p = 255 then none
  else
    let sign : ℚ := if p.getLsbD 31 then -1 else 1
    if expField p = 0 then some (sign * (fracField p : ℚ) / 2 ^ 149)
    else some (sign * ((2 ^ 23 + fracField p : Nat) : ℚ) * 2 ^ expField p / 2 ^ 150)

end Sys2Proof.Machine
end

