-- ==== Sys2Proof/Machine/Flags.lean ====
section
/-! DEFINITION. The flags of the block: the STATUS word and the PINS word as the host reads them (spec/10_state.md
R23–R30, R38, R54). Reserved bits read as 0 (R39). -/

namespace Sys2Proof.Machine

/-- The code of STATUS.STATE (R24). -/
def phaseCode : Phase → BitVec 3
  | .idle => 0
  | .triggering => 1
  | .awaitingRisingEdge => 2
  | .measuring => 3
  | .awaitingFallingEdge => 4
  | .complete => 5
  | .error => 6

/-- The code of STATUS.ERR (R25). -/
def errCode : ErrKind → BitVec 2
  | .noError => 0
  | .timeout => 1
  | .invalidConfig => 2
  | .illegalCommand => 3

/-- The STATUS word: BUSY 0, STATE 3:1, ERR 5:4, STAGE 6, INIT_OK 7, FAULT 8, LAST_OP 23:16, the rest 0 (R23). -/
def statusWord (t : Status) : Word :=
  0#8 ++ t.lastOp ++ 0#7 ++ BitVec.ofBool t.fault ++ BitVec.ofBool t.initOk ++ BitVec.ofBool t.stage
    ++ errCode t.err ++ phaseCode t.state ++ BitVec.ofBool t.busy

/-- The PINS word: TRIG 0, ECHO_SEEN 1, the rest 0 (R38). -/
def pinsWord (r : RegFile) : Word :=
  0#30 ++ BitVec.ofBool r.echoSeen ++ BitVec.ofBool r.pinsTrig

end Sys2Proof.Machine
end

