-- ==== Sys2Proof/Machine/Operands.lean ====
section
/-! DEFINITION. What the commands compute from their operands: the derived configuration quantities and predicates
(spec/10_state.md R49–R52) and the scaling of ticks to microseconds (spec/42_pulse_timer.md R144). Every quantity is
computed exactly, on natural numbers, and narrowed at the end. -/

namespace Sys2Proof.Machine

/-- `CPU_US`, whole core clock cycles per microsecond (R49). -/
def cpuUs (s : State) : Nat := s.regs.clkHz.toNat / 1000000

/-- `clk_ok` (R52). -/
abbrev ClkOk (s : State) : Prop := 1 ≤ cpuUs s

/-- `tick_ok` (R52). -/
abbrev TickOk (s : State) : Prop := s.regs.tickHz ≠ 0

/-- `to_ok` (R52). -/
abbrev ToOk (s : State) : Prop := ClkOk s ∧ s.regs.timeoutUs.toNat * cpuUs s ≤ 4294967295

/-- `cfg_ok` (R52). -/
abbrev CfgOk (s : State) : Prop := ClkOk s ∧ TickOk s ∧ ToOk s

/-- The value V latches into `N`: `CPU_US × 10`, or 0 where `clk_ok` fails (R50, R95). -/
def triggerCycles (s : State) : Word := if ClkOk s then BitVec.ofNat 32 (cpuUs s * 10) else 0

/-- The value V latches into `TO_CYC`: `TIMEOUT_US × CPU_US`, or 0 where `to_ok` fails (R51, R95). -/
def timeoutCycles (s : State) : Word :=
  if ToOk s then BitVec.ofNat 32 (s.regs.timeoutUs.toNat * cpuUs s) else 0

/-- `to_us(k)` at the tick rate `tickHz`: floor of the exact quotient, saturated at `2^32 − 1` (R144). At a rate of 0, which
V's check of `tick_ok` excludes, the spec states no result: a free value (DESIGN CHOICE log 6). -/
def toUs (tickHz k : Word) : Word :=
  match tickHz.toNat with
  | 0 => Config.freeUsAtZeroRate k
  | r + 1 => BitVec.ofNat 32 (min (k.toNat * 1000000 / (r + 1)) 4294967295)

/-- The timer's count as a register value: `zext_32` (R143). -/
def zextCount (k : BitVec Config.timerWidth) : Word := k.setWidth 32

end Sys2Proof.Machine
end

