-- ==== Sys2Proof/Machine/Ops.lean ====
section
/-! DEFINITION. The named operations over the state: the port primitives (spec/20_memory.md R67), the environment's steps
(R68), issue and finish (spec/30_encoding.md R93, R94), the host's register and bus accesses (spec/20_memory.md R62–R66)
and the reset event (spec/70_reset_and_hazards.md R240). The block has no exceptions (spec/60_exceptions.md R200): what
stands in their place is `raise`, the one operation by which every command ends in an error. There is no return from it
(R209): the next issue clears the error. -/

namespace Sys2Proof.Machine

/-! ### Sequencer and status -/

/-- `pc <- l` (R9, R40). -/
def setPc (l : Label) (s : State) : State := { s with seq.uPC := l }

/-- `S.STATE <- p` (R24). -/
def setPhase (p : Phase) (s : State) : State := { s with status.state := p }

/-- `lvl <- b` (R41). -/
def setLvl (b : Bool) (s : State) : State := { s with seq.lvl := b }

/-- `S.INIT_OK <- b` (R27). -/
def setInitOk (b : Bool) (s : State) : State := { s with status.initOk := b }

/-- The latches every V writes, whatever the command (R95). -/
def latchLimits (s : State) : State := { s with seq.n := triggerCycles s, seq.toCyc := timeoutCycles s }

/-- `Finish(ok)` (R94). -/
def finishOk (s : State) : State :=
  { s with
    status.busy := false, status.state := .complete, status.err := .noError, status.stage := false
    status.lastOp := s.seq.op, seq.uPC := .bot }

/-- `Finish(err, stage)`, written `raise err(stage)` in the rules (R94, R9): the one way an error ends a command (R200). -/
def raise (e : ErrKind) (stage : Bool) (s : State) : State :=
  { s with
    status.busy := false, status.state := .error, status.err := e, status.stage := stage
    status.lastOp := s.seq.op, seq.uPC := .bot }

/-! ### Port primitives (R67) -/

/-- `PinSet(b)`: drives the trigger line, which PINS.TRIG mirrors. -/
def pinSet (b : Bool) (s : State) : State := { s with ext.trigLine := b, regs.pinsTrig := b }

/-- `PinRead()`: the echo line's level. -/
def pinRead (s : State) : Bool := s.ext.echoLine

/-- `CycReset()`: the counter goes to 0 and keeps counting (R45). -/
def cycReset (s : State) : State := { s with ext.cyccnt := 0 }

/-- `CycRead()`. -/
def cycRead (s : State) : Word := s.ext.cyccnt

/-- `TmrReset()`: the count goes to 0; whether the timer runs is unchanged (R46). -/
def tmrReset (s : State) : State := { s with ext.tmrCnt := 0 }

/-- `TmrStart()`. -/
def tmrStart (s : State) : State := { s with ext.tmrRun := true }

/-- `TmrStop()`. -/
def tmrStop (s : State) : State := { s with ext.tmrRun := false }

/-- `TmrRead()`. -/
def tmrRead (s : State) : BitVec Config.timerWidth := s.ext.tmrCnt

/-- `PINS.ECHO_SEEN <- b` (R123). -/
def noteEcho (b : Bool) (s : State) : State := { s with regs.echoSeen := b }

/-- `c0 <- c` (R122). -/
def latchStart (c : Word) (s : State) : State := { s with seq.c0 := c }

/-! ### The environment (R68) -/

/-- A step of ENV. The counters wrap at their width (R8); the timer advances only while it runs, and a step that is not
enabled changes nothing (DESIGN CHOICE log 10). -/
def envStep (e : EnvStep) (s : State) : State :=
  match e with
  | .cyc k => { s with ext.cyccnt := s.ext.cyccnt + BitVec.ofNat 32 k }
  | .tmr k => if s.ext.tmrRun then { s with ext.tmrCnt := s.ext.tmrCnt + BitVec.ofNat Config.timerWidth k } else s
  | .echo b => { s with ext.echoLine := b }

/-! ### Issue (R93) and the host's accesses -/

/-- The effect of an illegal word on an idle block (R86). -/
def rejectWord (w : Word) (s : State) : State :=
  { s with status.state := .error, status.err := .illegalCommand, status.stage := false, status.lastOp := opcOf w }

/-- The effect of a legal word on an idle block (R93). -/
def startWord (w : Word) (s : State) : State :=
  { s with
    regs.cmd := w, seq.op := opcOf w, seq.lvl := levelOf w
    status.busy := true, status.state := .idle, status.err := .noError, status.stage := false
    seq.uPC := .v }

/-- `Issue(w)` (R93). -/
def issue (w : Word) (s : State) : State :=
  match decode w with
  | .ok _ => startWord w s
  | .error _ => rejectWord w s

/-- `ProtocolViolation()` (R204). -/
def protocolViolation (s : State) : State := { s with status.fault := true }

/-- A write that only an idle block accepts; while a command runs it is a protocol violation (R65, R204). -/
def whenIdle (accepted : State → State) (s : State) : State :=
  if s.status.busy then protocolViolation s else accepted s

/-- `RegRead(i)` (R64): the slot's value; reserved slots read as 0 (R39). -/
def regRead (i : Slot) (s : State) : Word :=
  match i.val with
  | 0 => s.regs.cmd
  | 1 => statusWord s.status
  | 2 => s.regs.clkHz
  | 3 => s.regs.tickHz
  | 4 => s.regs.timeoutUs
  | 5 => s.regs.operandUs
  | 6 => s.regs.resultTicks
  | 7 => s.regs.resultUs
  | 8 => s.regs.resultCm
  | 9 => pinsWord s.regs
  | _ => 0

/-- `RegWrite(i, v)` (R65, R66): writes to read-only and reserved slots have no effect (R39). -/
def regWrite (i : Slot) (v : Word) (s : State) : State :=
  match i.val with
  | 0 => whenIdle (issue v) s
  | 2 => whenIdle (fun s => { s with regs.clkHz := v, status.initOk := false }) s
  | 3 => whenIdle (fun s => { s with regs.tickHz := v, status.initOk := false }) s
  | 4 => whenIdle (fun s => { s with regs.timeoutUs := v, status.initOk := false }) s
  | 5 => whenIdle (fun s => { s with regs.operandUs := v }) s
  | _ => s

/-- What the host's read returned, kept for the host (log 3). -/
def hostReceives (w : Word) (s : State) : State := { s with world.hostData := some w }

/-- The slot an admitted bus access reaches (R61, R62); none where the access is not admitted. -/
def busSlot (addr n : Nat) : Option Slot :=
  if busAdmitted addr n then some (Fin.ofNat 16 ((addr - Config.blockBase) / 4)) else none

/-- The little-endian byte view of the window (R63): bits `8j+7 : 8j` of slot `i`. No admitted access shows it. -/
def slotByte (i : Slot) (j : Fin 4) (s : State) : BitVec 8 := (regRead i s).extractLsb' (8 * j.val) 8

/-- `MemRead(addr, n)` (R9, R62): an access that is not admitted has no step. -/
def busRead (addr n : Nat) (s : State) : Host.Outcome State Fault Refusal :=
  match busSlot addr n with
  | some i => .next (hostReceives (regRead i s) s)
  | none => .refused .busAccessNotAdmitted

/-- `MemWrite(addr, n, v)` (R9, R62): an access that is not admitted has no step. -/
def busWrite (addr n : Nat) (v : Word) (s : State) : Host.Outcome State Fault Refusal :=
  match busSlot addr n with
  | some i => .next (regWrite i v s)
  | none => .refused .busAccessNotAdmitted

/-- An access of the HOST agent (R64, R65, R62). -/
def hostAccess (h : HostAccess) (s : State) : Host.Outcome State Fault Refusal :=
  match h with
  | .regRead i => .next (hostReceives (regRead i s) s)
  | .regWrite i v => .next (regWrite i v s)
  | .memRead addr n => busRead addr n s
  | .memWrite addr n v => busWrite addr n v s

/-! ### Reset (R240) -/

/-- The reset event: every register, STATUS field and latch takes its reset value and the trigger line is driven low; the
other collaborators are not touched (R240, R241; log 11). -/
def resetBlock (s : State) : State :=
  { s with status := Status.reset, regs := RegFile.reset, seq := Sequencer.reset, ext.trigLine := false }

end Sys2Proof.Machine
end

