-- ==== Sys2Proof/Machine/Distance.lean ====
section
/-! DEFINITION. The distance converter (spec/43_distance.md): micro-step C1 and the command TO_CM. -/

namespace Sys2Proof.Machine

/-- `x[RESULT_CM] <- cm` (R37). -/
def setCm (cm : Word) (s : State) : State := { s with regs.resultCm := cm }

/-- `x[RESULT_CM] <- to_cm(us)` (R160). -/
def publishCm (us : Word) (s : State) : State := setCm (toCmBits us) s

/-- C1 (R163): the operand is read here, not at V. -/
def microC1 (s : State) : State := s |> publishCm s.regs.operandUs |> finishOk

/-- V of TO_CM (R95): nothing is checked, STATE stays as issue left it. -/
def validateToCm (s : State) : State := s |> latchLimits |> setPc .c1

/-- TO_CM, one CORE step at uPC (R163). -/
def execToCm (s : State) : Host.Outcome State Fault Refusal :=
  match s.seq.uPC with
  | .v => .next (validateToCm s)
  | .c1 => .next (microC1 s)
  | _ => .fault .strayLabel

end Sys2Proof.Machine
end

