-- ==== Sys2Proof/Machine/EchoEdge.lean ====
section
/-! DEFINITION. The echo edge waiter (spec/41_echo_edge.md): micro-steps W1–W3 and the command WAIT_EDGE. W1–W3 are also
the two waits of the MEASURE commands. -/

namespace Sys2Proof.Machine

/-- W1 (R122): the wait's bound is counted from this sample (R121). -/
def microW1 (s : State) : State := s |> latchStart (cycRead s) |> setPc .w2

/-- W2 (R123): sample the pin. A sample at the target level ends the wait whatever the time (D13); `hit` is what the
command does then. -/
def microW2 (target : Bool) (hit : State → State) (s : State) : State :=
  if pinRead s = target then s |> noteEcho (pinRead s) |> hit else s |> noteEcho (pinRead s) |> setPc .w3

/-- W3 (R124): check the bound on the wrap-safe difference; `late` is what the command does when it is reached. -/
def microW3 (late : State → State) (s : State) : State :=
  if s.seq.toCyc ≤ cycRead s - s.seq.c0 then late s else setPc .w2 s

/-- V of WAIT_EDGE (R95). -/
def validateWait (level : Bool) (s : State) : State :=
  if ToOk s then
    s |> latchLimits |> setPhase (if level then .awaitingRisingEdge else .awaitingFallingEdge) |> setPc .w1
  else s |> latchLimits |> raise .invalidConfig false

/-- WAIT_EDGE `level`, one CORE step at uPC (R125): the target is the LEVEL operand, which issue latched (log 14). A
timeout reports STAGE 0 for level 1 and STAGE 1 for level 0. -/
def execWaitEdge (level : Bool) (s : State) : Host.Outcome State Fault Refusal :=
  match s.seq.uPC with
  | .v => .next (validateWait level s)
  | .w1 => .next (microW1 s)
  | .w2 => .next (microW2 level finishOk s)
  | .w3 => .next (microW3 (raise .timeout (!level)) s)
  | _ => .fault .strayLabel

end Sys2Proof.Machine
end

