-- ==== Sys2Proof/Machine/PulseTimer.lean ====
section
/-! DEFINITION. The pulse timer interface (spec/42_pulse_timer.md): micro-steps S1, S2, P1, P2 and the commands
TIMER_START and TIMER_STOP_READ. The same micro-steps time the echo in the MEASURE commands. -/

namespace Sys2Proof.Machine

/-- S1 (R140): the count goes to 0, before the timer starts. -/
def microS1 (s : State) : State := s |> tmrReset |> setPc .s2

/-- S2 (R141): the timer starts, and `next` is what the command does then. -/
def microS2 (next : State → State) (s : State) : State := s |> tmrStart |> next

/-- P1 (R142): the timer stops. -/
def microP1 (s : State) : State := s |> tmrStop |> setPc .p2

/-- `x[RESULT_TICKS] <- ticks; x[RESULT_US] <- us` (R35, R36). -/
def setPulse (ticks us : Word) (s : State) : State := { s with regs.resultTicks := ticks, regs.resultUs := us }

/-- The results of P2 (R143): the raw count, and its microseconds by `to_us` (R144). -/
def publishPulse (s : State) : State :=
  setPulse (zextCount (tmrRead s)) (toUs s.regs.tickHz (zextCount (tmrRead s))) s

/-- P2 (R143): the results are published in the step that finishes (R70). -/
def microP2 (publish : State → State) (s : State) : State := s |> publish |> finishOk

/-- V of TIMER_START (R95): nothing is checked. -/
def validateTimerStart (s : State) : State := s |> latchLimits |> setPhase .measuring |> setPc .s1

/-- V of TIMER_STOP_READ (R95): only the tick rate is checked. -/
def validateTimerStopRead (s : State) : State :=
  if TickOk s then s |> latchLimits |> setPhase .measuring |> setPc .p1
  else s |> latchLimits |> raise .invalidConfig false

/-- TIMER_START, one CORE step at uPC (R145). -/
def execTimerStart (s : State) : Host.Outcome State Fault Refusal :=
  match s.seq.uPC with
  | .v => .next (validateTimerStart s)
  | .s1 => .next (microS1 s)
  | .s2 => .next (microS2 finishOk s)
  | _ => .fault .strayLabel

/-- TIMER_STOP_READ, one CORE step at uPC (R146). -/
def execTimerStopRead (s : State) : Host.Outcome State Fault Refusal :=
  match s.seq.uPC with
  | .v => .next (validateTimerStopRead s)
  | .p1 => .next (microP1 s)
  | .p2 => .next (microP2 publishPulse s)
  | _ => .fault .strayLabel

end Sys2Proof.Machine
end

