-- ==== Sys2Proof/Machine/Trigger.lean ====
section
/-! DEFINITION. The trigger pulse generator (spec/40_trigger.md): micro-steps T1–T4 and the command TRIGGER. T1–T3 are
also the Triggering phase of the MEASURE commands. -/

namespace Sys2Proof.Machine

/-- T1 (R102): the pin goes high. -/
def microT1 (s : State) : State := s |> pinSet true |> setPc .t2

/-- T2 (R103): the cycle counter restarts from 0, after the pin went high (R101). -/
def microT2 (s : State) : State := s |> cycReset |> setPc .t3

/-- T3 (R104): one sample of the busy-wait; it has no bound of its own. -/
def microT3 (s : State) : State := if s.seq.n ≤ cycRead s then setPc .t4 s else setPc .t3 s

/-- T4 (R105): the pin goes low, and `next` is what the command does then. -/
def microT4 (next : State → State) (s : State) : State := s |> pinSet false |> next

/-- V of TRIGGER (R95): only the clock is checked. -/
def validateTrigger (s : State) : State :=
  if ClkOk s then s |> latchLimits |> setPhase .triggering |> setPc .t1
  else s |> latchLimits |> raise .invalidConfig false

/-- TRIGGER, one CORE step at uPC (R106). -/
def execTrigger (s : State) : Host.Outcome State Fault Refusal :=
  match s.seq.uPC with
  | .v => .next (validateTrigger s)
  | .t1 => .next (microT1 s)
  | .t2 => .next (microT2 s)
  | .t3 => .next (microT3 s)
  | .t4 => .next (microT4 finishOk s)
  | _ => .fault .strayLabel

end Sys2Proof.Machine
end

