-- ==== Sys2Proof/Machine/Measure.lean ====
section
/-! DEFINITION. Initialisation and the full measurement (spec/44_measure.md): INIT, MEASURE_US, MEASURE_CM and micro-step
X1. The two MEASURE commands run one micro-program and differ in what P2 publishes (R183). -/

namespace Sys2Proof.Machine

/-- V of INIT (R95, R180): the whole command. -/
def validateInit (s : State) : State :=
  if CfgOk s then s |> latchLimits |> setInitOk true |> finishOk
  else s |> latchLimits |> setInitOk false |> raise .invalidConfig false

/-- INIT, one CORE step at uPC (R180). -/
def execInit (s : State) : Host.Outcome State Fault Refusal :=
  match s.seq.uPC with
  | .v => .next (validateInit s)
  | _ => .fault .strayLabel

/-- V of the MEASURE commands (R95, R182). -/
def validateMeasure (s : State) : State :=
  if CfgOk s then s |> latchLimits |> setLvl true |> setPhase .triggering |> setPc .t1
  else s |> latchLimits |> raise .invalidConfig false

/-- After T4 the rising wait begins (R105). -/
def beginRisingWait (s : State) : State := s |> setPhase .awaitingRisingEdge |> setLvl true |> setPc .w1

/-- After S2 the falling wait begins (R141). -/
def beginFallingWait (s : State) : State := s |> setPhase .awaitingFallingEdge |> setLvl false |> setPc .w1

/-- A W2 that saw the target level (R123): the rising wait leads to S1, the falling wait to P1. -/
def edgeSeen (s : State) : State :=
  if s.seq.lvl then s |> setPhase .measuring |> setPc .s1 else setPc .p1 s

/-- A W3 at the bound (R124): the rising wait ends in TIMEOUT stage 0, the falling wait goes on to X1. -/
def edgeLate (s : State) : State := if s.seq.lvl then raise .timeout false s else setPc .x1 s

/-- X1 (R184): the timer is stopped before the falling-stage TIMEOUT. -/
def microX1 (s : State) : State := s |> tmrStop |> raise .timeout true

/-- The micro-program of the MEASURE commands, one CORE step at uPC (R182); `publish` is what P2 writes. -/
def measureStep (publish : State → State) (s : State) : Host.Outcome State Fault Refusal :=
  match s.seq.uPC with
  | .v => .next (validateMeasure s)
  | .t1 => .next (microT1 s)
  | .t2 => .next (microT2 s)
  | .t3 => .next (microT3 s)
  | .t4 => .next (microT4 beginRisingWait s)
  | .w1 => .next (microW1 s)
  | .w2 => .next (microW2 s.seq.lvl edgeSeen s)
  | .w3 => .next (microW3 edgeLate s)
  | .s1 => .next (microS1 s)
  | .s2 => .next (microS2 beginFallingWait s)
  | .p1 => .next (microP1 s)
  | .p2 => .next (microP2 publish s)
  | .x1 => .next (microX1 s)
  | _ => .fault .strayLabel

/-- What MEASURE_CM's P2 writes (R183): the distance comes from the microseconds just computed. -/
def publishDistance (s : State) : State := publishCm (publishPulse s).regs.resultUs (publishPulse s)

/-- MEASURE_US (R182). -/
def execMeasureUs (s : State) : Host.Outcome State Fault Refusal := measureStep publishPulse s

/-- MEASURE_CM (R183). -/
def execMeasureCm (s : State) : Host.Outcome State Fault Refusal := measureStep publishDistance s

end Sys2Proof.Machine
end

