-- ==== Sys2Proof/Machine/Dispatch.lean ====
section
/-! DEFINITION. The meaning of each command (spec/30_encoding.md R84): one CORE step of the command at uPC
(spec/10_state.md R40). -/

namespace Sys2Proof.Machine

def exec (i : Instr) (s : State) : Host.Outcome State Fault Refusal :=
  match i with
  | .init => Sys2Proof.Machine.execInit s
  | .trigger => Sys2Proof.Machine.execTrigger s
  | .waitEdge level => Sys2Proof.Machine.execWaitEdge level s
  | .timerStart => Sys2Proof.Machine.execTimerStart s
  | .timerStopRead => Sys2Proof.Machine.execTimerStopRead s
  | .toCm => Sys2Proof.Machine.execToCm s
  | .measureUs => Sys2Proof.Machine.execMeasureUs s
  | .measureCm => Sys2Proof.Machine.execMeasureCm s

end Sys2Proof.Machine
end

