-- ==== Sys2Proof/Machine/Agents.lean ====
section
/-! DEFINITION. The agents' turns (spec/00_scope.md R10, spec/20_memory.md R69): CORE, ENV, HOST and the reset event, one
action at a time; host programs (spec/30_encoding.md R91) and the boot order (spec/70_reset_and_hazards.md R243). -/

namespace Sys2Proof.Machine

/-- The command CORE runs: what the latches `op` and `lvl` hold since issue (R41, R73; log 14). -/
def runningCommand (s : State) : Option Instr := ofOpcode s.seq.op s.seq.lvl

/-- CORE's turn: the running command's step. CORE has a step exactly while BUSY = 1 (R30); a turn without one changes
nothing (DESIGN CHOICE log 10). -/
def coreTurn (s : State) : Host.Outcome State Fault Refusal :=
  if s.status.busy then
    match runningCommand s with
    | some i => exec i s
    | none => .fault .noCommandLatched
  else .next s

/-- HOST's turn under its program: the next statement (R91). WAITIDLE polls STATUS once a turn and stays until BUSY reads
0; with no statement left HOST does nothing (log 3, log 10). -/
def programTurn (s : State) : State :=
  match s.world.program with
  | [] => s
  | .wr i v :: rest => regWrite i v { s with world.program := rest }
  | .rd i :: rest => hostReceives (regRead i s) { s with world.program := rest }
  | .command i :: rest => regWrite 0 (encode i) { s with world.program := rest }
  | .waitIdle :: rest =>
    if (regRead 1 s).getLsbD 0 then hostReceives (regRead 1 s) s
    else hostReceives (regRead 1 s) { s with world.program := rest }

/-- One action of a run (R10, R69, R240). -/
def perform (a : AgentAction) (s : State) : Host.Outcome State Fault Refusal :=
  match a with
  | .core => coreTurn s
  | .env e => .next (envStep e s)
  | .host h => hostAccess h s
  | .program => .next (programTurn s)
  | .reset => .next (resetBlock s)

/-- The action that comes next, and the state without it: the script's head, and any action where the script is empty
(R10, R69; DESIGN CHOICE log 2). -/
def nextAction (s : State) : AgentAction × State :=
  match s.world.script with
  | a :: rest => (a, { s with world.script := rest })
  | [] => (Config.freeAction s.world.draws, { s with world.draws := s.world.draws + 1 })

/-- One step of the system: the next action is performed. -/
def takeTurn (s : State) : Host.Outcome State Fault Refusal := perform (nextAction s).1 (nextAction s).2

/-- The actions of a list, performed in their order (R69); the first stop ends the run. -/
def runActions : List AgentAction → State → Host.Outcome State Fault Refusal
  | [], s => .next s
  | a :: rest, s =>
    match perform a s with
    | .next t => runActions rest t
    | .fault r => .fault r
    | .refused r => .refused r

/-- The state in which `w` has been issued and CORE takes the next turn, laid down whatever ran before; a word that is no
command is instead the host's next write of CMD, which rejects it (R86, R93; log 15). -/
def stageWord (w : Word) (s : State) : State :=
  match decode w with
  | .ok _ => { startWord w s with world.script := .core :: s.world.script }
  | .error _ => { s with world.script := .host (.regWrite 0 w) :: s.world.script }

/-! ### Host programs (R91, R243) -/

/-- `initialize(handle)` (R91). -/
def callInitialize : List HostStmt := [.command .init, .waitIdle]

/-- `trigger(handle)` (R91). -/
def callTrigger : List HostStmt := [.command .trigger, .waitIdle]

/-- `wait_for_edge(handle, level, timeout)` (R91). -/
def callWaitForEdge (level : Bool) (timeout : Word) : List HostStmt :=
  [.wr 4 timeout, .command (.waitEdge level), .waitIdle]

/-- PulseTimer `start()` (R91). -/
def callStart : List HostStmt := [.command .timerStart, .waitIdle]

/-- PulseTimer `stop_and_read()` (R91). -/
def callStopAndRead : List HostStmt := [.command .timerStopRead, .waitIdle, .rd 6]

/-- `to_centimeters(us)` (R91). -/
def callToCentimeters (us : Word) : List HostStmt := [.wr 5 us, .command .toCm, .waitIdle, .rd 8]

/-- `measure_pulse_microseconds(handle, timeout)` (R91). -/
def callMeasureMicroseconds (timeout : Word) : List HostStmt :=
  [.wr 4 timeout, .command .measureUs, .waitIdle, .rd 1, .rd 7]

/-- `measure_distance_centimeters(handle, timeout)` (R91). -/
def callMeasureCentimeters (timeout : Word) : List HostStmt :=
  [.wr 4 timeout, .command .measureCm, .waitIdle, .rd 1, .rd 8]

/-- Steps 2 to 5 of the boot order (R243); step 1 is the platform's. -/
def bootProgram (clkHz tickHz timeoutUs : Word) : List HostStmt :=
  [.wr 2 clkHz, .wr 3 tickHz, .wr 4 timeoutUs, .command .init, .waitIdle, .rd 1]

end Sys2Proof.Machine
end

