-- ==== Sys2Proof/Machine/Step.lean ====
section
/-! DEFINITION. The step of the machine, and the state in which the next step runs a given command word. -/

namespace Sys2Proof.Machine

/-- One step: one action of one agent, or the reset event (spec/00_scope.md R10, spec/20_memory.md R69). -/
def step (s : State) : Host.Outcome State Fault Refusal := takeTurn s

/-- `s` with the command word `w` issued and CORE to step next (spec/30_encoding.md R93; log 15): the block fetches no
program, so this stands for the host's write of CMD. -/
def State.withFetchWord (s : State) (nbits w : Nat) : State := stageWord (BitVec.ofNat 32 (w % 2 ^ nbits)) s

end Sys2Proof.Machine
end

