-- ==== Sys2Proof/Safety.lean ====
section
/-! DEFINITION. What claims about the block speak of: the invariant of its states (spec/10_state.md R24–R30, R40, R41,
R43), the end of a run and its observation (spec/70_reset_and_hazards.md R260), runs of actions, and the premises that the
spec names for claims about liveness and about seconds (spec/20_memory.md R75, R76, spec/44_measure.md R185,
spec/70_reset_and_hazards.md R244, R245, R254). None of the premises is part of the step. -/

namespace Sys2Proof.Machine

/-! ### The invariant -/

/-- The labels of each command's micro-program (R95, R106, R125, R145, R146, R163, R180, R182). -/
def microProgram : Instr → List Label
  | .init => [.v]
  | .trigger => [.v, .t1, .t2, .t3, .t4]
  | .waitEdge _ => [.v, .w1, .w2, .w3]
  | .timerStart => [.v, .s1, .s2]
  | .timerStopRead => [.v, .p1, .p2]
  | .toCm => [.v, .c1]
  | .measureUs => [.v, .t1, .t2, .t3, .t4, .w1, .w2, .w3, .s1, .s2, .p1, .p2, .x1]
  | .measureCm => [.v, .t1, .t2, .t3, .t4, .w1, .w2, .w3, .s1, .s2, .p1, .p2, .x1]

/-- The check V makes for each command (R95, R202). -/
def ConfigPasses (s : State) : Instr → Prop
  | .init => CfgOk s
  | .trigger => ClkOk s
  | .waitEdge _ => ToOk s
  | .timerStart => True
  | .timerStopRead => TickOk s
  | .toCm => True
  | .measureUs => CfgOk s
  | .measureCm => CfgOk s

/-- The two MEASURE commands. -/
def isMeasure : Instr → Bool
  | .init => false
  | .trigger => false
  | .waitEdge _ => false
  | .timerStart => false
  | .timerStopRead => false
  | .toCm => false
  | .measureUs => true
  | .measureCm => true

/-- STATUS.STATE while command `i` is at a label, with target level `lvl` (R24, R95, R181). -/
def phaseAt (i : Instr) (lvl : Bool) : Label → Phase
  | .bot => .idle
  | .v => .idle
  | .t1 => .triggering
  | .t2 => .triggering
  | .t3 => .triggering
  | .t4 => .triggering
  | .w1 => if lvl then .awaitingRisingEdge else .awaitingFallingEdge
  | .w2 => if lvl then .awaitingRisingEdge else .awaitingFallingEdge
  | .w3 => if lvl then .awaitingRisingEdge else .awaitingFallingEdge
  | .s1 => .measuring
  | .s2 => .measuring
  | .p1 => if isMeasure i then .awaitingFallingEdge else .measuring
  | .p2 => if isMeasure i then .awaitingFallingEdge else .measuring
  | .x1 => .awaitingFallingEdge
  | .c1 => .idle

/-- What holds while command `i` runs: uPC is in its micro-program, STATE shows its phase, past V its check has passed and
the latches hold what V computed, and in a MEASURE command the wait level follows the phase (R40, R41, R95, R182). -/
structure Running (i : Instr) (s : State) : Prop where
  label : s.seq.uPC ∈ microProgram i
  phase : s.status.state = phaseAt i s.seq.lvl s.seq.uPC
  checked : s.seq.uPC ≠ .v →
    ConfigPasses s i ∧ s.seq.n = triggerCycles s ∧ s.seq.toCyc = timeoutCycles s
  rising : isMeasure i = true → s.seq.uPC ∈ [Label.t1, .t2, .t3, .t4, .s1, .s2] → s.seq.lvl = true
  falling : isMeasure i = true → s.seq.uPC ∈ [Label.p1, .p2, .x1] → s.seq.lvl = false

/-- The invariant of the block's states. -/
structure BlockInv (s : State) : Prop where
  /-- BUSY = 1 exactly while uPC is a label other than `⊥` (R30, R40). -/
  busy_iff : s.status.busy = true ↔ s.seq.uPC ≠ .bot
  /-- PINS.TRIG is the trigger line's level (R43). -/
  trig_mirrored : s.regs.pinsTrig = s.ext.trigLine
  /-- The trigger line is high exactly between T1 and T4 (R43). -/
  trig_high_iff : s.ext.trigLine = true ↔ s.seq.uPC ∈ [Label.t2, .t3, .t4]
  /-- ERR is nonzero exactly when STATE is Error (R25). -/
  err_iff : s.status.err ≠ .noError ↔ s.status.state = .error
  /-- STAGE is 0 unless ERR is TIMEOUT (R26). -/
  stage_timeout : s.status.stage = true → s.status.err = .timeout
  /-- With no command running STATE is Idle, Complete or Error (R24). -/
  rest_phase : s.status.busy = false → s.status.state ∈ [Phase.idle, .complete, .error]
  /-- CMD holds the reset value or a legal word (R22). -/
  cmd_legal : s.regs.cmd = 0 ∨ legalWord s.regs.cmd = true
  /-- The opcode latch holds the opcode of CMD while a command runs (R22, R41). -/
  op_of_cmd : s.status.busy = true → s.seq.op = opcOf s.regs.cmd
  /-- The running command's own part (R40, R41). -/
  running : s.status.busy = true → ∃ i, runningCommand s = some i ∧ Running i s

/-! ### The end of a run (R260) -/

/-- A state in which no command runs; every claim about a host's program also takes that the host broke no rule
(R204, R260). -/
abbrev Final (s : State) : Prop := s.status.busy = false

/-- The host has kept the protocol since reset (R28, R204, R260). -/
abbrev HostObedient (s : State) : Prop := s.status.fault = false

/-- What is observed at the end of a run: the register file, PINS included, and the external state (R260). -/
structure Observation where
  slots : List Word
  ext : External
  deriving DecidableEq, Repr

/-- The observation of a state (R260). -/
def observe (s : State) : Observation :=
  { slots := (List.finRange 16).map (fun i => regRead i s), ext := s.ext }

/-! ### Scripts of the environment (spec/95_test_vectors.md, section 0) -/

/-- `E1` for `k` CORE steps: one `EnvCyc(1)` before every CORE step, and nothing else. -/
def scriptE1 : Nat → List AgentAction
  | 0 => []
  | k + 1 => .env (.cyc 1) :: .core :: scriptE1 k

/-- `k` turns of CORE with no step of any other agent between: a stopped counter (R251). -/
def coreTurns (k : Nat) : List AgentAction := List.replicate k .core

/-- By how much an action advances the cycle counter (R68). -/
def cycAdvance : AgentAction → Nat
  | .core => 0
  | .env (.cyc k) => k
  | .env (.tmr _) => 0
  | .env (.echo _) => 0
  | .host _ => 0
  | .program => 0
  | .reset => 0

/-- By how much an action advances the running timer (R68). -/
def tmrAdvance : AgentAction → Nat
  | .core => 0
  | .env (.cyc _) => 0
  | .env (.tmr k) => k
  | .env (.echo _) => 0
  | .host _ => 0
  | .program => 0
  | .reset => 0

/-- An action of CORE or ENV: neither the host nor a reset. -/
def isCoreOrEnv : AgentAction → Bool
  | .core => true
  | .env _ => true
  | .host _ => false
  | .program => false
  | .reset => false

/-- Every state of the run of `as` from `s`, its start and its end among them, satisfies `P`, and no action stops it. -/
def StaysIn (P : State → Prop) : List AgentAction → State → Prop
  | [], s => P s
  | a :: rest, s => P s ∧ ∃ t, perform a s = .next t ∧ StaysIn P rest t

/-! ### Infinite runs and the premises of liveness (R75) -/

/-- `ρ 0, ρ 1, …` is the run that takes the actions `σ 0, σ 1, …` (R69). -/
def IsRun (σ : Nat → AgentAction) (ρ : Nat → State) : Prop := ∀ n, perform (σ n) (ρ n) = .next (ρ (n + 1))

/-- Step `n` is a CORE step that reads or resets the cycle counter (R67, R75). -/
def SamplesCounter (σ : Nat → AgentAction) (ρ : Nat → State) (n : Nat) : Prop :=
  σ n = .core ∧ (ρ n).status.busy = true ∧ (ρ n).seq.uPC ∈ [Label.t2, .t3, .w1, .w3]

/-- The fairness premise of R75, its three parts (log 13). -/
structure Fair (σ : Nat → AgentAction) (ρ : Nat → State) : Prop where
  /-- (a) While BUSY = 1, CORE eventually takes its step. -/
  core : ∀ n, (ρ n).status.busy = true → ∃ m, n ≤ m ∧ (σ m = .core ∨ (ρ m).status.busy = false)
  /-- (b) ENV takes `EnvCyc` steps infinitely often. -/
  cyc : ∀ n, ∃ m k, n ≤ m ∧ 1 ≤ k ∧ σ m = .env (.cyc k)
  /-- (c) Between two consecutive CORE steps that read or reset the counter it advances by at most
  `2^32 − 1 − max(N, TO_CYC)`. -/
  jumps : ∀ a b, a < b → SamplesCounter σ ρ a → SamplesCounter σ ρ b →
    (∀ c, a < c → c < b → ¬ SamplesCounter σ ρ c) →
    (∑ n ∈ Finset.Ioo a b, cycAdvance (σ n)) ≤
      2 ^ 32 - 1 - max (ρ b).seq.n.toNat (ρ b).seq.toCyc.toNat

/-! ### Real time, as a premise (R76, R185, R244, R245, R254) -/

/-- `IdealClocks(f, g)` (R76): `τ n` is the time of step `n`; the advances are counted over the steps after `a` up to and
including `b` (log 13). -/
structure IdealClocks (f g : ℝ) (σ : Nat → AgentAction) (ρ : Nat → State) (τ : Nat → ℝ) : Prop where
  nonneg : ∀ n, 0 ≤ τ n
  mono : ∀ m n, m ≤ n → τ m ≤ τ n
  cyc : ∀ a b, a ≤ b →
    ((∑ n ∈ Finset.Ioc a b, cycAdvance (σ n) : Nat) : ℤ) = ⌊f * τ b⌋ - ⌊f * τ a⌋
  tmr : ∀ a b, a ≤ b → (∀ n, a < n → n ≤ b → (ρ n).ext.tmrRun = true) →
    ((∑ n ∈ Finset.Ioc a b, tmrAdvance (σ n) : Nat) : ℤ) = ⌊g * τ b⌋ - ⌊g * τ a⌋

/-- The host has written the true rates of the counters (R244, R245). -/
def RatesTrue (f g : ℝ) (s : State) : Prop :=
  (s.regs.clkHz.toNat : ℝ) = f ∧ (s.regs.tickHz.toNat : ℝ) = g

/-- `Latency(δ)` (R185): every CORE step of a command comes at most `δ` seconds after the command's previous CORE step, or
after its issue where it is the first. BUSY = 1 throughout says that both belong to one command. -/
def Latency (δ : ℝ) (σ : Nat → AgentAction) (ρ : Nat → State) (τ : Nat → ℝ) : Prop :=
  ∀ a b, a < b → (∀ c, a < c → c ≤ b → (ρ c).status.busy = true) → (σ a = .core ∨ (ρ a).status.busy = false) →
    σ b = .core → (∀ c, a < c → c < b → σ c ≠ .core) → τ b - τ a ≤ δ

/-- The host duty of R254: SETTLE_US microseconds lie between the end of a measurement and the issue of the next command
that pulses the trigger. DESIGN CHOICE log 19: where the host measures with single commands the spec does not say what the
end of one measurement is; it is taken here to be the CORE step that finishes a TRIGGER or MEASURE command, also in an error,
and not the end of a later WAIT_EDGE or TIMER_STOP_READ. -/
def Settles (σ : Nat → AgentAction) (ρ : Nat → State) (τ : Nat → ℝ) : Prop :=
  ∀ a b, a < b → σ a = .core → (ρ a).status.busy = true → (ρ (a + 1)).status.busy = false →
    (ρ b).status.busy = false → (ρ (b + 1)).status.busy = true → (ρ (b + 1)).seq.op ∈ [(0x02 : Opcode), 0x07, 0x08] →
    (ρ a).seq.op ∈ [(0x02 : Opcode), 0x07, 0x08] → (Config.settleUs : ℝ) / 1000000 ≤ τ b - τ a

end Sys2Proof.Machine
end

