-- ==== Sys2Proof/Certificates/Slice0/Obligations.lean ====
section
/-! DEFINITION. The statements about the block, each from the rules of spec/ that its docstring names. `exec i s` is one
CORE step of command `i` at the label `s.seq.uPC` (spec/10_state.md R40); `perform` is one action of an agent;
`runActions` is a finite run. States are written as updates of the state before, so each equation is also a frame: what it
does not name is unchanged. -/

open Sys2Proof Sys2Proof.Machine

/-! ### Encoding (30_encoding.md) -/

/-- R84, R85: decoding what the encoder gives for a command gives the command back, and every word that decodes is the
encoding of what it decodes to. So no bit of a command word is dropped, over all 2^32 words. -/
def Obligations.DecodeAndEncodeAreInverse : Prop :=
  (∀ i : Instr, i.wf = true → decode (encode i) = .ok i) ∧
  (∀ (w : Word) (i : Instr), decode w = .ok i → encode i = w)

/-- R85: a word is legal exactly when RSV is 0, OPC is 0x01 to 0x08 and LEVEL is 0 or OPC is 0x03; the legal words are the
words of the commands; the match and mask pairs are disjoint and accept exactly the legal words, each for its command. -/
def Obligations.LegalWordsAreTheCommandWords : Prop :=
  ∀ w : Word,
    ((∃ i, decode w = .ok i) ↔
      w.extractLsb' 9 23 = 0 ∧
      w.extractLsb' 0 8 ∈ [(0x01 : BitVec 8), 0x02, 0x03, 0x04, 0x05, 0x06, 0x07, 0x08] ∧
      (w.getLsbD 8 = false ∨ w.extractLsb' 0 8 = 0x03)) ∧
    (∀ i, decode w = .ok i ↔
      ∃ r ∈ opcodeRows, w &&& r.mask = r.value ∧ r.mnemonic = mnemonic i ∧ levelField i = w.getLsbD 8) ∧
    (∀ r ∈ opcodeRows, ∀ r' ∈ opcodeRows, w &&& r.mask = r.value → w &&& r'.mask = r'.value → r = r')

/-- R96, the worked encodings. -/
def Obligations.WorkedEncodings : Prop :=
  encode (.waitEdge true) = 0x00000103 ∧ decode 0x00000103 = .ok (.waitEdge true) ∧
  encode (.waitEdge false) = 0x00000003 ∧ decode 0x00000003 = .ok (.waitEdge false) ∧
  (∀ i, decode 0x00000102 ≠ .ok i) ∧ (∀ i, decode 0x80000002 ≠ .ok i) ∧
  (∀ i, decode 0x00000009 ≠ .ok i) ∧ (∀ i, decode 0x00000000 ≠ .ok i)

/-! ### Host accesses (20_memory.md, 30_encoding.md, 60_exceptions.md) -/

/-- R93: a write of CMD to an idle block. A legal word is stored, its opcode and LEVEL are latched, BUSY is set, STATE is
Idle, ERR and STAGE are cleared and uPC is V; an illegal word sets STATE, ERR, STAGE and LAST_OP. Nothing else changes. -/
def Obligations.IssueStartsOrRejects : Prop :=
  ∀ (s : State) (w : Word), s.status.busy = false →
    (∀ i, decode w = .ok i →
      perform (.host (.regWrite 0 w)) s = .next { s with
        regs.cmd := w, seq.op := w.extractLsb' 0 8, seq.lvl := w.getLsbD 8, seq.uPC := .v
        status.busy := true, status.state := .idle, status.err := .noError, status.stage := false }) ∧
    ((∀ i, decode w ≠ .ok i) →
      perform (.host (.regWrite 0 w)) s = .next { s with
        status.state := .error, status.err := .illegalCommand, status.stage := false
        status.lastOp := w.extractLsb' 0 8 })

/-- R204: a write to CMD, CLK_HZ, TICK_HZ, TIMEOUT_US or OPERAND_US while BUSY = 1, whatever the value, sets FAULT and does
nothing else; reads while busy and writes to read-only or reserved slots set no FAULT. -/
def Obligations.WriteWhileBusyOnlySetsFault : Prop :=
  ∀ (s : State) (i : Slot) (v : Word), s.status.busy = true →
    (i ∈ [(0 : Slot), 2, 3, 4, 5] →
      perform (.host (.regWrite i v)) s = .next { s with status.fault := true }) ∧
    (i ∈ [(1 : Slot), 6, 7, 8, 9, 10, 11, 12, 13, 14, 15] →
      perform (.host (.regWrite i v)) s = .next s) ∧
    (∀ t, perform (.host (.regRead i)) s = .next t → t.status.fault = s.status.fault)

/-- R66, R65: an idle block's configuration write stores the value and clears INIT_OK, also when the value is the old one;
a write of OPERAND_US stores the value and leaves INIT_OK. -/
def Obligations.ConfigurationWritesClearInitOk : Prop :=
  ∀ (s : State) (v : Word), s.status.busy = false →
    perform (.host (.regWrite 2 v)) s = .next { s with regs.clkHz := v, status.initOk := false } ∧
    perform (.host (.regWrite 3 v)) s = .next { s with regs.tickHz := v, status.initOk := false } ∧
    perform (.host (.regWrite 4 v)) s = .next { s with regs.timeoutUs := v, status.initOk := false } ∧
    perform (.host (.regWrite 5 v)) s = .next { s with regs.operandUs := v }

/-- R64 with R21, R22, R31–R38: what each defined slot reads as (STATUS is in StatusFieldsAtTheirBits, the reserved bits
are in ReservedReadsZeroAndIgnoresWrites); and a read gives the slot's value to the host and changes nothing of the block or
its collaborators, so that a second read of any slot returns what it would have returned without the first. Keeping the
word read in `hostData` is the model's choice (log 3). -/
def Obligations.RegisterReadsHaveNoSideEffect : Prop :=
  (∀ s : State,
    regRead 0 s = s.regs.cmd ∧ regRead 2 s = s.regs.clkHz ∧ regRead 3 s = s.regs.tickHz ∧
    regRead 4 s = s.regs.timeoutUs ∧ regRead 5 s = s.regs.operandUs ∧ regRead 6 s = s.regs.resultTicks ∧
    regRead 7 s = s.regs.resultUs ∧ regRead 8 s = s.regs.resultCm ∧
    (regRead 9 s).getLsbD 0 = s.regs.pinsTrig ∧ (regRead 9 s).getLsbD 1 = s.regs.echoSeen) ∧
  ∀ (s : State) (i j : Slot), ∃ t, perform (.host (.regRead i)) s = .next t ∧
    t.world.hostData = some (regRead i s) ∧
    t.status = s.status ∧ t.regs = s.regs ∧ t.seq = s.seq ∧ t.ext = s.ext ∧
    t.world.script = s.world.script ∧ t.world.program = s.world.program ∧ t.world.draws = s.world.draws ∧
    regRead j t = regRead j s

/-- R39: reserved slots and reserved fields read as 0, and a write to a reserved or read-only slot has no effect, whether a
command runs or not, and is not a fault. -/
def Obligations.ReservedReadsZeroAndIgnoresWrites : Prop :=
  ∀ (s : State) (v : Word),
    (∀ i : Slot, 10 ≤ i.val → regRead i s = 0) ∧
    (regRead 1 s).extractLsb' 9 7 = 0 ∧ (regRead 1 s).extractLsb' 24 8 = 0 ∧ (regRead 9 s).extractLsb' 2 30 = 0 ∧
    (∀ i : Slot, i ∈ [(1 : Slot), 6, 7, 8, 9] ∨ 10 ≤ i.val → perform (.host (.regWrite i v)) s = .next s)

/-- R23–R25: every field of STATUS at its bits, all from one state; the codes of STATE and ERR; and 0 after reset. -/
def Obligations.StatusFieldsAtTheirBits : Prop :=
  (∀ s : State,
    (regRead 1 s).getLsbD 0 = s.status.busy ∧
    (regRead 1 s).extractLsb' 1 3 = phaseCode s.status.state ∧
    (regRead 1 s).extractLsb' 4 2 = errCode s.status.err ∧
    (regRead 1 s).getLsbD 6 = s.status.stage ∧
    (regRead 1 s).getLsbD 7 = s.status.initOk ∧
    (regRead 1 s).getLsbD 8 = s.status.fault ∧
    (regRead 1 s).extractLsb' 9 7 = 0 ∧
    (regRead 1 s).extractLsb' 16 8 = s.status.lastOp ∧
    (regRead 1 s).extractLsb' 24 8 = 0) ∧
  (phaseCode .idle = 0 ∧ phaseCode .triggering = 1 ∧ phaseCode .awaitingRisingEdge = 2 ∧ phaseCode .measuring = 3 ∧
    phaseCode .awaitingFallingEdge = 4 ∧ phaseCode .complete = 5 ∧ phaseCode .error = 6) ∧
  (errCode .noError = 0 ∧ errCode .timeout = 1 ∧ errCode .invalidConfig = 2 ∧ errCode .illegalCommand = 3) ∧
  regRead 1 State.reset = 0

/-- R61, R62: on the bus, slot `i` is at BLOCK_BASE + 4·i, BLOCK_BASE is a multiple of 64, the 4-byte accesses there are the
register accesses, and every other access has no step. -/
def Obligations.OnlyAlignedWordAccessesOfTheWindow : Prop :=
  Config.blockBase % 64 = 0 ∧
  ∀ (s : State) (addr n : Nat) (v : Word),
    (∀ i : Slot, n = 4 → addr = Config.blockBase + 4 * i.val →
      perform (.host (.memRead addr n)) s = perform (.host (.regRead i)) s ∧
      perform (.host (.memWrite addr n v)) s = perform (.host (.regWrite i v)) s) ∧
    ((n ≠ 4 ∨ ∀ i : Slot, addr ≠ Config.blockBase + 4 * i.val) →
      perform (.host (.memRead addr n)) s = .refused .busAccessNotAdmitted ∧
      perform (.host (.memWrite addr n v)) s = .refused .busAccessNotAdmitted)

/-- R73, R204, R216, R217: while a command runs the host can disturb nothing of it: whatever access it makes, register,
bus or program statement, sequencer, registers and collaborators are unchanged and of STATUS at most FAULT changes. -/
def Obligations.HostCannotDisturbARunningCommand : Prop :=
  ∀ (s t : State) (x : AgentAction), s.status.busy = true → (x = .program ∨ ∃ h, x = .host h) →
    perform x s = .next t →
    t.seq = s.seq ∧ t.regs = s.regs ∧ t.ext = s.ext ∧
    (t.status = s.status ∨ t.status = { s.status with fault := true }) ∧ t.world.script = s.world.script

/-- R91: WR and RD are the host's register write and read; a command statement writes the command's word to CMD; WAITIDLE
reads STATUS and stays while BUSY reads 1. One statement a turn, and keeping the word read in `hostData`, are the model's
choices (log 3). -/
def Obligations.HostProgramStatements : Prop :=
  ∀ (s : State) (rest : List HostStmt),
    (∀ (k : Slot) (v : Word), s.world.program = .wr k v :: rest →
      perform .program s = perform (.host (.regWrite k v)) { s with world.program := rest }) ∧
    (∀ k : Slot, s.world.program = .rd k :: rest →
      perform .program s = perform (.host (.regRead k)) { s with world.program := rest }) ∧
    (∀ i : Instr, s.world.program = .command i :: rest →
      perform .program s = perform (.host (.regWrite 0 (encode i))) { s with world.program := rest }) ∧
    (s.world.program = .waitIdle :: rest → s.status.busy = true →
      perform .program s = .next { s with world.hostData := some (regRead 1 s) }) ∧
    (s.world.program = .waitIdle :: rest → s.status.busy = false →
      perform .program s = .next { s with world.hostData := some (regRead 1 s), world.program := rest })

/-! ### The environment and reset (20_memory.md R68, 70_reset_and_hazards.md) -/

/-- R68: the three steps of ENV, the counters modulo 2^32 and modulo 2^TIMER_WIDTH; ENV changes no block register, no
trigger line and not whether the timer runs. That a timer step of a stopped timer changes nothing is the model's choice
(log 10). -/
def Obligations.EnvironmentOnlyMovesCountersAndEcho : Prop :=
  ∀ (s : State) (k : Nat) (b : Bool),
    (∃ c : Word, perform (.env (.cyc k)) s = .next { s with ext.cyccnt := c } ∧
      c.toNat = (s.ext.cyccnt.toNat + k) % 2 ^ 32) ∧
    (s.ext.tmrRun = true → ∃ c : BitVec Config.timerWidth,
      perform (.env (.tmr k)) s = .next { s with ext.tmrCnt := c } ∧
      c.toNat = (s.ext.tmrCnt.toNat + k) % 2 ^ Config.timerWidth) ∧
    (s.ext.tmrRun = false → perform (.env (.tmr k)) s = .next s) ∧
    perform (.env (.echo b)) s = .next { s with ext.echoLine := b }

/-- R55: the value of every register, STATUS field, latch and of the trigger line after reset. Nothing is said of the
collaborators R55 calls unspecified. -/
def Obligations.ResetLeavesTheStatedValues : Prop :=
  State.reset.status =
    { busy := false, state := .idle, err := .noError, stage := false, initOk := false, fault := false
      lastOp := 0x00 } ∧
  State.reset.regs =
    { cmd := 0, clkHz := 0, tickHz := 1000000, timeoutUs := 50000, operandUs := 0
      resultTicks := 0, resultUs := 0, resultCm := 0, pinsTrig := false, echoSeen := false } ∧
  State.reset.seq = { uPC := .bot, op := 0, lvl := false, n := 0, toCyc := 0, c0 := 0 } ∧
  State.reset.ext.trigLine = false ∧
  (∀ i : Slot, i ≠ 3 → i ≠ 4 → regRead i State.reset = 0) ∧
  regRead 3 State.reset = 0x000F4240 ∧ regRead 4 State.reset = 0x0000C350

/-- R240: at any point, also while a command runs, the reset event gives every register, STATUS field and latch its reset
value, drives the trigger line low, and touches none of the other collaborators. That it also keeps the inputs of the run,
which are not the block's, is the model's reading (log 11). -/
def Obligations.ResetEventAbandonsAnyCommand : Prop :=
  ∀ s : State, ∃ t, perform .reset s = .next t ∧
    t.status = State.reset.status ∧ t.regs = State.reset.regs ∧ t.seq = State.reset.seq ∧
    t.ext = { s.ext with trigLine := false } ∧ t.world = s.world

/-! ### Finish and the micro-steps (30_encoding.md R94, R95 and the family files) -/

/-- R94: the two forms of Finish. -/
def Obligations.FinishEndsACommand : Prop :=
  ∀ (s : State) (e : ErrKind) (stage : Bool),
    finishOk s = { s with
      status.busy := false, status.state := .complete, status.err := .noError, status.stage := false
      status.lastOp := s.seq.op, seq.uPC := .bot } ∧
    raise e stage s = { s with
      status.busy := false, status.state := .error, status.err := e, status.stage := stage
      status.lastOp := s.seq.op, seq.uPC := .bot }

/-- R52: the four predicates, from the registers. -/
def Obligations.ConfigurationPredicates : Prop :=
  ∀ s : State,
    (ClkOk s ↔ 1000000 ≤ s.regs.clkHz.toNat) ∧
    (TickOk s ↔ s.regs.tickHz ≠ 0) ∧
    (ToOk s ↔ 1000000 ≤ s.regs.clkHz.toNat ∧
      s.regs.timeoutUs.toNat * (s.regs.clkHz.toNat / 1000000) ≤ 2 ^ 32 - 1) ∧
    (CfgOk s ↔ 1000000 ≤ s.regs.clkHz.toNat ∧ s.regs.tickHz ≠ 0 ∧
      s.regs.timeoutUs.toNat * (s.regs.clkHz.toNat / 1000000) ≤ 2 ^ 32 - 1)

/-- R95: micro-step V of every command, on every configuration. `r` is the state with `N` and `TO_CYC` latched. INIT
completes here. -/
def Obligations.ValidationOfEveryCommand : Prop :=
  ∀ s r : State, s.seq.uPC = .v →
    r = { s with
      seq.n := if ClkOk s then BitVec.ofNat 32 (s.regs.clkHz.toNat / 1000000 * 10) else 0
      seq.toCyc :=
        if ToOk s then BitVec.ofNat 32 (s.regs.timeoutUs.toNat * (s.regs.clkHz.toNat / 1000000)) else 0 } →
    exec .init s = .next
      (if CfgOk s then finishOk { r with status.initOk := true }
       else raise .invalidConfig false { r with status.initOk := false }) ∧
    exec .trigger s = .next
      (if ClkOk s then { r with status.state := .triggering, seq.uPC := .t1 }
       else raise .invalidConfig false r) ∧
    (∀ level, exec (.waitEdge level) s = .next
      (if ToOk s then { r with
          status.state := if level then .awaitingRisingEdge else .awaitingFallingEdge, seq.uPC := .w1 }
       else raise .invalidConfig false r)) ∧
    exec .timerStart s = .next { r with status.state := .measuring, seq.uPC := .s1 } ∧
    exec .timerStopRead s = .next
      (if TickOk s then { r with status.state := .measuring, seq.uPC := .p1 }
       else raise .invalidConfig false r) ∧
    exec .toCm s = .next { r with seq.uPC := .c1 } ∧
    (∀ i ∈ [Instr.measureUs, .measureCm], exec i s = .next
      (if CfgOk s then { r with seq.lvl := true, status.state := .triggering, seq.uPC := .t1 }
       else raise .invalidConfig false r))

/-- R102–R105: T1 to T4 of TRIGGER and of the MEASURE commands; TRIGGER completes at T4. -/
def Obligations.TriggerPulseSteps : Prop :=
  ∀ s : State,
    (∀ i ∈ [Instr.trigger, .measureUs, .measureCm],
      (s.seq.uPC = .t1 → exec i s = .next { s with ext.trigLine := true, regs.pinsTrig := true, seq.uPC := .t2 }) ∧
      (s.seq.uPC = .t2 → exec i s = .next { s with ext.cyccnt := 0, seq.uPC := .t3 }) ∧
      (s.seq.uPC = .t3 → s.seq.n.toNat ≤ s.ext.cyccnt.toNat → exec i s = .next { s with seq.uPC := .t4 }) ∧
      (s.seq.uPC = .t3 → s.ext.cyccnt.toNat < s.seq.n.toNat → exec i s = .next s)) ∧
    (s.seq.uPC = .t4 →
      exec .trigger s = .next (finishOk { s with ext.trigLine := false, regs.pinsTrig := false }) ∧
      ∀ i ∈ [Instr.measureUs, .measureCm], exec i s = .next { s with
        ext.trigLine := false, regs.pinsTrig := false, status.state := .awaitingRisingEdge
        seq.lvl := true, seq.uPC := .w1 })

/-- R122–R124: W1 to W3 of WAIT_EDGE and of the MEASURE commands; WAIT_EDGE completes at the W2 that samples its level, and
raises TIMEOUT at a W3 at the bound. -/
def Obligations.EchoWaitSteps : Prop :=
  ∀ (s : State) (level : Bool),
    (s.seq.uPC = .w1 → ∀ i ∈ [Instr.waitEdge level, .measureUs, .measureCm],
      exec i s = .next { s with seq.c0 := s.ext.cyccnt, seq.uPC := .w2 }) ∧
    (s.seq.uPC = .w2 →
      (s.ext.echoLine = level →
        exec (.waitEdge level) s = .next (finishOk { s with regs.echoSeen := s.ext.echoLine })) ∧
      (s.ext.echoLine ≠ level →
        exec (.waitEdge level) s = .next { s with regs.echoSeen := s.ext.echoLine, seq.uPC := .w3 }) ∧
      ∀ i ∈ [Instr.measureUs, .measureCm], exec i s = .next
        (if s.ext.echoLine = s.seq.lvl then
          (if s.seq.lvl then { s with
              regs.echoSeen := s.ext.echoLine, status.state := .measuring, seq.uPC := .s1 }
           else { s with regs.echoSeen := s.ext.echoLine, seq.uPC := .p1 })
         else { s with regs.echoSeen := s.ext.echoLine, seq.uPC := .w3 })) ∧
    (s.seq.uPC = .w3 →
      (s.seq.toCyc.toNat ≤ (s.ext.cyccnt - s.seq.c0).toNat →
        exec (.waitEdge level) s = .next (raise .timeout (!level) s) ∧
        ∀ i ∈ [Instr.measureUs, .measureCm], exec i s = .next
          (if s.seq.lvl then raise .timeout false s else { s with seq.uPC := .x1 })) ∧
      ((s.ext.cyccnt - s.seq.c0).toNat < s.seq.toCyc.toNat →
        ∀ i ∈ [Instr.waitEdge level, .measureUs, .measureCm], exec i s = .next { s with seq.uPC := .w2 }))

/-- R140–R143: S1, S2, P1, P2 of TIMER_START, TIMER_STOP_READ and the MEASURE commands; TIMER_START completes at S2,
TIMER_STOP_READ, MEASURE_US and MEASURE_CM at P2. -/
def Obligations.PulseTimerSteps : Prop :=
  ∀ s : State,
    (s.seq.uPC = .s1 → ∀ i ∈ [Instr.timerStart, .measureUs, .measureCm],
      exec i s = .next { s with ext.tmrCnt := 0, seq.uPC := .s2 }) ∧
    (s.seq.uPC = .s2 →
      exec .timerStart s = .next (finishOk { s with ext.tmrRun := true }) ∧
      ∀ i ∈ [Instr.measureUs, .measureCm], exec i s = .next { s with
        ext.tmrRun := true, status.state := .awaitingFallingEdge, seq.lvl := false, seq.uPC := .w1 }) ∧
    (s.seq.uPC = .p1 → ∀ i ∈ [Instr.timerStopRead, .measureUs, .measureCm],
      exec i s = .next { s with ext.tmrRun := false, seq.uPC := .p2 }) ∧
    (s.seq.uPC = .p2 → ∀ ticks us : Word,
      ticks = s.ext.tmrCnt.setWidth 32 → us = toUs s.regs.tickHz ticks →
      (∀ i ∈ [Instr.timerStopRead, .measureUs],
        exec i s = .next (finishOk { s with regs.resultTicks := ticks, regs.resultUs := us })) ∧
      exec .measureCm s = .next (finishOk { s with
        regs.resultTicks := ticks, regs.resultUs := us, regs.resultCm := toCmBits us }))

/-- R184: X1 stops the timer and raises TIMEOUT with STAGE 1; count and results are unchanged. -/
def Obligations.FallingTimeoutStopsTheTimer : Prop :=
  ∀ s : State, s.seq.uPC = .x1 → ∀ i ∈ [Instr.measureUs, .measureCm],
    exec i s = .next { s with
      ext.tmrRun := false, status.busy := false, status.state := .error, status.err := .timeout
      status.stage := true, status.lastOp := s.seq.op, seq.uPC := .bot }

/-- R163: C1 of TO_CM, which completes it. -/
def Obligations.ConversionStep : Prop :=
  ∀ s : State, s.seq.uPC = .c1 →
    exec .toCm s = .next { s with
      regs.resultCm := toCmBits s.regs.operandUs
      status.busy := false, status.state := .complete, status.err := .noError, status.stage := false
      status.lastOp := s.seq.op, seq.uPC := .bot }

/-- R40, R95: at a label its micro-program does not have, a command has no micro-step: the model stops by name (log 7). -/
def Obligations.NoMicroStepOffTheProgram : Prop :=
  ∀ (i : Instr) (s : State), exec i s = .fault .strayLabel ↔ s.seq.uPC ∉ microProgram i

/-! ### Frames -/

/-- R21, R41, R44, R68: no command writes CMD, a configuration register, OPERAND_US, FAULT, the opcode latch, the echo line
or anything of the host's. -/
def Obligations.NoCommandWritesItsInputs : Prop :=
  ∀ (i : Instr) (s t : State), exec i s = .next t →
    t.regs.cmd = s.regs.cmd ∧ t.regs.clkHz = s.regs.clkHz ∧ t.regs.tickHz = s.regs.tickHz ∧
    t.regs.timeoutUs = s.regs.timeoutUs ∧ t.regs.operandUs = s.regs.operandUs ∧
    t.status.fault = s.status.fault ∧ t.seq.op = s.seq.op ∧ t.ext.echoLine = s.ext.echoLine ∧ t.world = s.world

/-- The frame of each command beyond that, register by register: only INIT writes INIT_OK (R180); only TO_CM and
MEASURE_CM write RESULT_CM (R37, R163, R183); only TIMER_STOP_READ and the MEASURE commands write RESULT_TICKS and
RESULT_US (R35, R36); only TRIGGER and the MEASURE commands drive the trigger line and reset the cycle counter (R67, R109);
only WAIT_EDGE and the MEASURE commands sample the echo (R38, R123) and latch a start (R122); only TIMER_START,
TIMER_STOP_READ and the MEASURE commands touch the timer, and TIMER_STOP_READ keeps its count (R67, R142); only the MEASURE
commands move the target level (R41); the limits are latched at V alone (R95). -/
def Obligations.EachCommandChangesOnlyItsOwn : Prop :=
  ∀ (i : Instr) (s t : State), exec i s = .next t →
    (i ≠ .init → t.status.initOk = s.status.initOk) ∧
    (i ∉ [Instr.toCm, .measureCm] → t.regs.resultCm = s.regs.resultCm) ∧
    (i ∉ [Instr.timerStopRead, .measureUs, .measureCm] →
      t.regs.resultTicks = s.regs.resultTicks ∧ t.regs.resultUs = s.regs.resultUs) ∧
    (i ∉ [Instr.trigger, .measureUs, .measureCm] →
      t.ext.trigLine = s.ext.trigLine ∧ t.regs.pinsTrig = s.regs.pinsTrig ∧ t.ext.cyccnt = s.ext.cyccnt) ∧
    (i ∉ [Instr.waitEdge true, .waitEdge false, .measureUs, .measureCm] →
      t.regs.echoSeen = s.regs.echoSeen ∧ t.seq.c0 = s.seq.c0) ∧
    (i ∉ [Instr.timerStart, .timerStopRead, .measureUs, .measureCm] → t.ext.tmrRun = s.ext.tmrRun) ∧
    (i ∉ [Instr.timerStart, .measureUs, .measureCm] → t.ext.tmrCnt = s.ext.tmrCnt) ∧
    (i ∉ [Instr.measureUs, .measureCm] → t.seq.lvl = s.seq.lvl) ∧
    (s.seq.uPC ≠ .v → t.seq.n = s.seq.n ∧ t.seq.toCyc = s.seq.toCyc)

/-- R70, R208: a CORE step after which the command still runs writes no result, no ERR, STAGE, LAST_OP or INIT_OK; a CORE
step that ends a command in an error writes no result register. -/
def Obligations.ResultsArePublishedAtFinish : Prop :=
  ∀ s t : State, perform .core s = .next t → s.status.busy = true →
    (t.status.busy = true →
      t.status.err = s.status.err ∧ t.status.stage = s.status.stage ∧ t.status.lastOp = s.status.lastOp ∧
      t.status.initOk = s.status.initOk) ∧
    (t.status.busy = true ∨ t.status.err ≠ .noError →
      t.regs.resultTicks = s.regs.resultTicks ∧ t.regs.resultUs = s.regs.resultUs ∧
      t.regs.resultCm = s.regs.resultCm)

/-! ### The step -/

/-- R10, R69: a step is the next action of the script, performed on the state without it; with the script empty it is the
free choice's action (log 2). -/
def Obligations.StepPerformsTheNextAction : Prop :=
  ∀ (s : State),
    (∀ a rest, s.world.script = a :: rest → step s = perform a { s with world.script := rest }) ∧
    (s.world.script = [] →
      step s = perform (Config.freeAction s.world.draws) { s with world.draws := s.world.draws + 1 })

/-- R30, R41, R73: a step of the running command. Where CORE is next and the latches hold what a legal word's issue put
there, the step is `exec` of the command the word decodes to, on the state without that action. That the script says who is
next is the model's choice (log 2). The second clause is about `State.withFetchWord`, also the model's choice (log 15): it
lays the issue of a legal word over any state, a busy one too, where R93 issues at BUSY = 0 only, and the step after it is
`exec` of that command at V. -/
def Obligations.StepRunsTheDecodedCommand : Prop :=
  (∀ (s : State) (w : Word) (i : Instr) (rest : List AgentAction),
    decode w = .ok i → s.world.script = .core :: rest → s.status.busy = true →
    s.seq.op = w.extractLsb' 0 8 → (i = .waitEdge (w.getLsbD 8) → s.seq.lvl = w.getLsbD 8) →
    step s = exec i { s with world.script := rest }) ∧
  (∀ (s : State) (w : Nat) (i : Instr), w < 2 ^ 32 → decodeTableWord 32 w = some i →
    ∃ t, step (s.withFetchWord 32 w) = exec i t ∧ t.seq.uPC = .v ∧ t.status.busy = true ∧
      t.regs = { s.regs with cmd := BitVec.ofNat 32 w } ∧ t.ext = s.ext ∧ t.world = s.world)

/-- The invariant holds after reset. -/
def Obligations.InvariantAtReset : Prop := BlockInv State.reset

/-- R24–R26, R30, R40, R41, R43, R181: every step, whichever agent's, keeps the invariant of the block's states. -/
def Obligations.EveryStepKeepsTheInvariant : Prop :=
  ∀ s t : State, BlockInv s → step s = .next t → BlockInv t

/-- R40, R62: in a state that meets the invariant no step faults; a step is refused only at a bus access that R62 does not
admit. That the turn of an agent with no enabled step (R30, R68) answers a next state is the model's choice (log 10), that a
bus access not admitted ends the run by a refusal is the model's form of R62 (log 4), and the faults are the model's names
for states with no micro-step (log 7). -/
def Obligations.OnlyBadBusAccessesStopTheMachine : Prop :=
  ∀ s : State, BlockInv s →
    (∃ t, step s = .next t) ∨
    (step s = .refused .busAccessNotAdmitted ∧ (nextAction s).1.wf = false)

/-- R28: nothing but a reset clears FAULT. -/
def Obligations.OnlyResetClearsFault : Prop :=
  ∀ s t : State, step s = .next t → s.status.fault = true → t.status.fault = true ∨ (nextAction s).1 = .reset

/-- R27: INIT_OK rises only in the step of an INIT whose configuration is valid. -/
def Obligations.InitOkRisesOnlyByInit : Prop :=
  ∀ s t : State, step s = .next t → s.status.initOk = false → t.status.initOk = true →
    (nextAction s).1 = .core ∧ runningCommand s = some .init ∧ s.status.busy = true ∧ CfgOk s

/-! ### Arithmetic -/

/-- R49–R51: what V latches: N is ten times the whole cycles per microsecond and at most 42 940, TO_CYC is the exact
product; so N is never 0 for a clock that passes. -/
def Obligations.LatchedLimitsAreExact : Prop :=
  ∀ s : State,
    (ClkOk s → (triggerCycles s).toNat = s.regs.clkHz.toNat / 1000000 * 10 ∧
      10 ≤ (triggerCycles s).toNat ∧ (triggerCycles s).toNat ≤ 42940) ∧
    (ToOk s → (timeoutCycles s).toNat = s.regs.timeoutUs.toNat * (s.regs.clkHz.toNat / 1000000))

/-- R144: scaling of ticks: floor of the exact quotient, saturated; the identity at 1 MHz; saturation only below 1 MHz. -/
def Obligations.TicksScaleToMicroseconds : Prop :=
  ∀ rate k : Word, rate ≠ 0 →
    (toUs rate k).toNat = min (k.toNat * 1000000 / rate.toNat) (2 ^ 32 - 1) ∧
    (rate = 1000000 → toUs rate k = k) ∧
    (1000000 ≤ rate.toNat → (toUs rate k).toNat = k.toNat * 1000000 / rate.toNat)

/-- R160, R161: `to_cm(us)` has sign 0 and a value, no finite binary32 value is nearer to the exact quotient `us / 58`, and
where another is as near its fraction is even. -/
def Obligations.DistanceIsTheNearestBinary32 : Prop :=
  ∀ us : Word, ∃ v : ℚ, binary32Value (toCmBits us) = some v ∧ (toCmBits us).getLsbD 31 = false ∧
    ∀ (p : Word) (u : ℚ), binary32Value p = some u →
      |v - (us.toNat : ℚ) / 58| ≤ |u - (us.toNat : ℚ) / 58| ∧
      (|v - (us.toNat : ℚ) / 58| = |u - (us.toNat : ℚ) / 58| → u ≠ v → (toCmBits us).getLsbD 0 = false)

/-- R162: the stated results, and monotonicity in the input. -/
def Obligations.DistanceIsMonotone : Prop :=
  toCmBits 0 = 0x00000000 ∧ toCmBits 580 = 0x41200000 ∧ toCmBits 5800 = 0x42C80000 ∧
  binary32Value 0x41200000 = some 10 ∧ binary32Value 0x42C80000 = some 100 ∧
  toCmBits 0xFFFFFFFF = 0x4C8D3DCB ∧ binary32Value 0x4C8D3DCB = some 74051160 ∧
  (∀ us : Word, (toCmBits us).getLsbD 31 = false ∧ expField (toCmBits us) < 255) ∧
  (∀ (a b : Word) (u v : ℚ), a.toNat ≤ b.toNat → binary32Value (toCmBits a) = some u →
    binary32Value (toCmBits b) = some v → u ≤ v)

/-- R164: for `us ≤ 2^24` rounding `us` to binary32 gives a value equal to `us`, so that the quotient of that value by 58,
rounded once, is `RNE32(us / 58)`; and this is `to_cm(us)`. At 2^24 + 1 the value is 2^24, and the two differ. -/
def Obligations.SinglePrecisionAgreesUpToItsLimit : Prop :=
  (∀ us : Word, us.toNat ≤ 2 ^ 24 →
    binary32Value (rne32 us.toNat 1) = some (us.toNat : ℚ) ∧ rne32 us.toNat 58 = toCmBits us) ∧
  rne32 16777217 1 = rne32 16777216 1 ∧ rne32 16777216 58 = 0x488D3DCB ∧ toCmBits 16777217 = 0x488D3DCC

/-! ### Runs of whole commands -/

/-- R180, R259: INIT takes one CORE step from its issue. -/
def Obligations.InitRunsInOneStep : Prop :=
  ∀ s : State, s.status.busy = false → ∃ t,
    runActions [.host (.regWrite 0 0x00000001), .core] s = .next t ∧
    t.status.busy = false ∧ t.status.lastOp = 0x01 ∧ t.status.stage = false ∧ t.status.fault = s.status.fault ∧
    t.ext = s.ext ∧ t.regs = { s.regs with cmd := 0x00000001 } ∧
    (CfgOk s → t.status.state = .complete ∧ t.status.err = .noError ∧ t.status.initOk = true) ∧
    (¬ CfgOk s → t.status.state = .error ∧ t.status.err = .invalidConfig ∧ t.status.initOk = false)

/-- R163, R259: writing OPERAND_US and issuing TO_CM; two CORE steps, whatever the configuration. -/
def Obligations.ToCmRunsInTwoSteps : Prop :=
  ∀ (s : State) (us : Word), s.status.busy = false → ∃ t,
    runActions [.host (.regWrite 5 us), .host (.regWrite 0 0x00000006), .core, .core] s = .next t ∧
    t.regs = { s.regs with cmd := 0x00000006, operandUs := us, resultCm := toCmBits us } ∧
    t.status = { s.status with state := .complete, err := .noError, stage := false, lastOp := 0x06 } ∧
    t.ext = s.ext ∧ t.seq.uPC = .bot

/-- R140–R146: TIMER_START and then TIMER_STOP_READ, with any steps of ENV at every place between the host's writes and
CORE's steps, and the timer stopped or running before. The count read is the ticks between the start (S2) and the stop (P1),
and with them those between S1 and S2 where the timer was running already, and the timer is left stopped. That an EnvTmr
step of a stopped timer, which R68 does not enable, passes without effect is the model's choice (log 10). -/
def Obligations.TimerCountsFromStartToStop : Prop :=
  ∀ (s : State) (e1 e2 e3 e4 e5 e6 e7 : List EnvStep) (ticks : Nat), s.status.busy = false → s.regs.tickHz ≠ 0 →
    ticks = ((e4 ++ e5 ++ e6).map (fun e => tmrAdvance (.env e))).sum
      + (if s.ext.tmrRun then (e3.map (fun e => tmrAdvance (.env e))).sum else 0) → ∃ t,
    runActions
      ([.host (.regWrite 0 0x00000004)] ++ e1.map .env ++ [.core] ++ e2.map .env ++ [.core] ++ e3.map .env ++ [.core]
        ++ e4.map .env ++ [.host (.regWrite 0 0x00000005)] ++ e5.map .env ++ [.core] ++ e6.map .env ++ [.core]
        ++ e7.map .env ++ [.core]) s = .next t ∧
    t.regs.resultTicks = BitVec.ofNat 32 ticks ∧ t.regs.resultUs = toUs s.regs.tickHz (BitVec.ofNat 32 ticks) ∧
    t.regs.resultCm = s.regs.resultCm ∧ t.ext.tmrRun = false ∧ t.status.busy = false ∧
    t.status.state = .complete ∧ t.status.lastOp = 0x05

/-- R106, R107, R259 (vectors TRG-2 to TRG-6): with one counter cycle before each CORE step TRIGGER takes exactly N + 4
steps; the trigger line is high after step 2 and up to step N + 3; the end state is given whole. -/
def Obligations.TriggerTakesNPlusFourSteps : Prop :=
  ∀ (s : State) (n : Nat), s.status.busy = false → n = s.regs.clkHz.toNat / 1000000 * 10 → 1 ≤ n →
    (∀ k, 2 ≤ k → k < n + 4 → ∃ t,
      runActions (.host (.regWrite 0 0x00000002) :: scriptE1 k) s = .next t ∧
      t.ext.trigLine = true ∧ t.status.busy = true) ∧
    runActions (.host (.regWrite 0 0x00000002) :: scriptE1 (n + 4)) s = .next { s with
      status.busy := false, status.state := .complete, status.err := .noError, status.stage := false
      status.lastOp := 0x02
      regs.cmd := 0x00000002, regs.pinsTrig := false
      seq.uPC := .bot, seq.op := 0x02, seq.lvl := false, seq.n := BitVec.ofNat 32 n, seq.toCyc := timeoutCycles s
      ext.trigLine := false, ext.cyccnt := BitVec.ofNat 32 (n + 1) }

/-- R125, R259 (vectors WE-4 to WE-6): with one counter cycle before each CORE step and the echo line never at the level, a
WAIT_EDGE times out after exactly `2 + 2 × max(1, ceil(TO_CYC / 2))` steps and not before. The premise excludes
TO_CYC = 2^32 − 1, where every difference under this script is even and the count of R259 is not reached (log 17). -/
def Obligations.WaitTimesOutOnTheStatedStep : Prop :=
  ∀ (s : State) (level : Bool) (bound steps : Nat), s.status.busy = false → ToOk s →
    bound = s.regs.timeoutUs.toNat * (s.regs.clkHz.toNat / 1000000) → bound < 2 ^ 32 - 1 →
    s.ext.echoLine ≠ level → steps = 2 + 2 * max 1 ((bound + 1) / 2) →
    (∀ k, k < steps → ∃ t,
      runActions (.host (.regWrite 0 (encode (.waitEdge level))) :: scriptE1 k) s = .next t ∧
      t.status.busy = true) ∧
    runActions (.host (.regWrite 0 (encode (.waitEdge level))) :: scriptE1 steps) s = .next { s with
      status.busy := false, status.state := .error, status.err := .timeout, status.stage := !level
      status.lastOp := 0x03
      regs.cmd := encode (.waitEdge level), regs.echoSeen := s.ext.echoLine
      seq.uPC := .bot, seq.op := 0x03, seq.lvl := level, seq.n := triggerCycles s
      seq.toCyc := BitVec.ofNat 32 bound, seq.c0 := s.ext.cyccnt + 2
      ext.cyccnt := s.ext.cyccnt + BitVec.ofNat 32 steps }

/-- R126: the wait detects a level: a WAIT_EDGE issued with the line already at its level completes at its first sample,
three CORE steps after issue, whatever the bound and whatever the counter does. -/
def Obligations.WaitIsLevelSensitive : Prop :=
  ∀ (s : State) (level : Bool) (a b c : Nat), s.status.busy = false → ToOk s → s.ext.echoLine = level → ∃ t,
    runActions [.host (.regWrite 0 (encode (.waitEdge level))), .env (.cyc a), .core, .env (.cyc b), .core,
      .env (.cyc c), .core] s = .next t ∧
    t.status.busy = false ∧ t.status.state = .complete ∧ t.status.err = .noError ∧ t.status.lastOp = 0x03 ∧
    t.regs.echoSeen = level ∧ t.ext.trigLine = s.ext.trigLine ∧ t.ext.tmrCnt = s.ext.tmrCnt ∧
    t.ext.tmrRun = s.ext.tmrRun

/-- R182, R183, R259 (programs P2, MS-2, MS-7, MS-10): a MEASURE command with no echo, one counter cycle before each CORE
step, times out in the rising stage after exactly `5 + N + 2 × max(1, ceil(TO_CYC / 2))` steps and not before, with the
timer and every result untouched. TO_CYC = 2^32 − 1 is excluded as in WaitTimesOutOnTheStatedStep (log 17). -/
def Obligations.MeasureWithoutEchoTimesOut : Prop :=
  ∀ (s : State) (n bound steps : Nat), s.status.busy = false → CfgOk s →
    n = s.regs.clkHz.toNat / 1000000 * 10 →
    bound = s.regs.timeoutUs.toNat * (s.regs.clkHz.toNat / 1000000) → bound < 2 ^ 32 - 1 →
    s.ext.echoLine = false → steps = 5 + n + 2 * max 1 ((bound + 1) / 2) →
    ∀ i ∈ [Instr.measureUs, .measureCm],
      (∀ k, k < steps → ∃ t,
        runActions (.host (.regWrite 0 (encode i)) :: scriptE1 k) s = .next t ∧ t.status.busy = true) ∧
      runActions (.host (.regWrite 0 (encode i)) :: scriptE1 steps) s = .next { s with
        status.busy := false, status.state := .error, status.err := .timeout, status.stage := false
        status.lastOp := opcode i
        regs.cmd := encode i, regs.pinsTrig := false, regs.echoSeen := false
        seq.uPC := .bot, seq.op := opcode i, seq.lvl := true, seq.n := BitVec.ofNat 32 n
        seq.toCyc := BitVec.ofNat 32 bound, seq.c0 := BitVec.ofNat 32 (n + 2)
        ext.trigLine := false, ext.cyccnt := BitVec.ofNat 32 (steps - 3) }

/-- R251: with the cycle counter stopped, a pulse hangs at T3 with the trigger line high and BUSY set, and a wait whose line
is not at its level hangs in W2 and W3; CORE's turns change nothing more, however many they are. -/
def Obligations.StoppedCounterHangs : Prop :=
  (∀ (s : State) (k : Nat), BlockInv s → s.seq.uPC = .t2 →
    runActions (coreTurns (k + 1)) s = .next { s with ext.cyccnt := 0, seq.uPC := .t3 } ∧
    s.ext.trigLine = true ∧ s.status.busy = true) ∧
  (∀ (s : State) (k : Nat), BlockInv s → s.seq.uPC = .w2 → s.ext.echoLine ≠ s.seq.lvl →
    (s.ext.cyccnt - s.seq.c0).toNat < s.seq.toCyc.toNat →
    runActions (coreTurns (2 * (k + 1))) s = .next { s with regs.echoSeen := s.ext.echoLine } ∧
    s.status.busy = true)

/-- R107: in every run, between T2 and the T3 that moves to T4 the counter advances by at least N, modulo 2^32, and the
trigger line is high throughout. -/
def Obligations.PulseCountsAtLeastN : Prop :=
  ∀ (s s1 t u : State) (as : List AgentAction), BlockInv s → s.seq.uPC = .t2 → perform .core s = .next s1 →
    StaysIn (fun x => x.seq.uPC = .t3) as s1 → runActions as s1 = .next t →
    perform .core t = .next u → u.seq.uPC = .t4 →
    s.seq.n.toNat ≤ (as.map cycAdvance).sum % 2 ^ 32 ∧ s.ext.trigLine = true ∧
    StaysIn (fun x => x.ext.trigLine = true ∧ x.regs.pinsTrig = true ∧ x.seq.n = s.seq.n) as s1 ∧
    u.ext.trigLine = true

/-- R127, R128: a wait that ends in TIMEOUT has sampled the line at the other level, its counter has advanced by at least
TO_CYC, modulo 2^32, since W1, and STAGE names the level it waited for; of a MEASURE command this holds of both stages, the
falling one ending at X1. -/
def Obligations.TimedOutWaitHasWaitedItsBound : Prop :=
  ∀ (s s1 t u : State) (as : List AgentAction), BlockInv s → s.seq.uPC = .w1 → perform .core s = .next s1 →
    StaysIn (fun x => x.seq.uPC ∈ [Label.w2, .w3]) as s1 → runActions as s1 = .next t → t.seq.uPC = .w3 →
    perform .core t = .next u → u.seq.uPC ∉ [Label.w2, .w3] →
    s.seq.toCyc.toNat ≤ (as.map cycAdvance).sum % 2 ^ 32 ∧ t.regs.echoSeen ≠ s.seq.lvl ∧
    (u.status.busy = false → u.status.err = .timeout ∧ u.status.stage = !s.seq.lvl) ∧
    (u.status.busy = true → u.seq.uPC = .x1 ∧ s.seq.lvl = false)

/-- R186, R141, R143: in a MEASURE command RESULT_TICKS is, modulo 2^32, the count that S2 finds and the sum of the timer's
advances between S2 and P1. S1 has set that count to 0 (PulseTimerSteps), and ticks come between S1 and S2 only where the
timer was running already. RESULT_US is its scaling. That an EnvTmr step after P1, which R68 does not enable, passes without
effect is the model's choice (log 10). -/
def Obligations.MeasuredTicksAreTheTimerAdvances : Prop :=
  ∀ (i : Instr) (s s1 t u v z : State) (as bs : List AgentAction) (ticks : Nat),
    i ∈ [Instr.measureUs, .measureCm] → BlockInv s → runningCommand s = some i → s.seq.uPC = .s2 →
    ticks = s.ext.tmrCnt.toNat + (as.map tmrAdvance).sum →
    perform .core s = .next s1 → StaysIn (fun x => x.seq.uPC ∈ [Label.w1, .w2, .w3, .p1]) as s1 →
    runActions as s1 = .next t → t.seq.uPC = .p1 → perform .core t = .next u →
    StaysIn (fun x => x.seq.uPC = .p2) bs u → runActions bs u = .next v → perform .core v = .next z →
    z.regs.resultTicks = BitVec.ofNat 32 ticks ∧ z.regs.resultUs = toUs s.regs.tickHz (BitVec.ofNat 32 ticks) ∧
    (i = .measureCm → z.regs.resultCm = toCmBits z.regs.resultUs) ∧
    (i = .measureUs → z.regs.resultCm = v.regs.resultCm) ∧
    z.status.busy = false ∧ z.status.err = .noError ∧ z.ext.tmrRun = false

/-- R48, R187: the outcome of a command depends on the configuration, OPERAND_US, the command word, the external state and
what ENV does, and on nothing an earlier command left: from two idle states that agree on the former, the same word and the
same actions of CORE and ENV lead to the same external state, phase and error, and each result register is either equal in
both or left in both as it was. That the turn of an agent with no enabled step passes is the model's choice (log 10). -/
def Obligations.OutcomeIndependentOfEarlierCommands : Prop :=
  ∀ (a b : State) (w : Word) (i : Instr) (as : List AgentAction) (t : State),
    BlockInv a → BlockInv b → a.status.busy = false → b.status.busy = false → decode w = .ok i →
    a.regs.clkHz = b.regs.clkHz → a.regs.tickHz = b.regs.tickHz → a.regs.timeoutUs = b.regs.timeoutUs →
    a.regs.operandUs = b.regs.operandUs → a.ext = b.ext → (∀ x ∈ as, isCoreOrEnv x = true) →
    runActions (.host (.regWrite 0 w) :: as) a = .next t →
    ∃ u, runActions (.host (.regWrite 0 w) :: as) b = .next u ∧
      t.ext = u.ext ∧ t.seq.uPC = u.seq.uPC ∧ t.regs.pinsTrig = u.regs.pinsTrig ∧
      t.status.busy = u.status.busy ∧ t.status.state = u.status.state ∧ t.status.err = u.status.err ∧
      t.status.stage = u.status.stage ∧ (t.status.busy = false → t.status.lastOp = u.status.lastOp) ∧
      (t.regs.resultTicks = u.regs.resultTicks ∧ t.regs.resultUs = u.regs.resultUs ∨
        t.regs.resultTicks = a.regs.resultTicks ∧ u.regs.resultTicks = b.regs.resultTicks ∧
        t.regs.resultUs = a.regs.resultUs ∧ u.regs.resultUs = b.regs.resultUs) ∧
      (t.regs.resultCm = u.regs.resultCm ∨
        t.regs.resultCm = a.regs.resultCm ∧ u.regs.resultCm = b.regs.resultCm)

/-! ### Liveness and real time -/

/-- R75, R260: under the three parts of the fairness premise no command hangs: from every point of the run BUSY is 0 at some
later point. -/
def Obligations.FairRunsEndEveryCommand : Prop :=
  ∀ (σ : Nat → AgentAction) (ρ : Nat → State), IsRun σ ρ → BlockInv (ρ 0) → Fair σ ρ →
    ∀ n, ∃ m, n ≤ m ∧ (ρ m).status.busy = false

/-- R108: under ideal clocks and with the true CLK_HZ written, the trigger line is high for more than `(N − 1) / f`
seconds, where `N / f` lies in `(10 µs − 10/f, 10 µs]`. Step `a` is T1 and step `b` is T4 of one command. -/
def Obligations.PulseLastsItsSeconds : Prop :=
  ∀ (f g : ℝ) (σ : Nat → AgentAction) (ρ : Nat → State) (τ : Nat → ℝ) (a b : Nat),
    IsRun σ ρ → IdealClocks f g σ ρ τ → BlockInv (ρ a) → ((ρ a).regs.clkHz.toNat : ℝ) = f → a < b →
    σ a = .core → (ρ a).seq.uPC = .t1 → σ b = .core → (ρ b).seq.uPC = .t4 →
    (∀ n, a < n → n ≤ b → (ρ n).seq.uPC ∈ [Label.t2, .t3, .t4]) →
    (((ρ a).seq.n.toNat : ℝ) - 1) / f < τ b - τ a ∧
    10 / 1000000 - 10 / f < ((ρ a).seq.n.toNat : ℝ) / f ∧ ((ρ a).seq.n.toNat : ℝ) / f ≤ 10 / 1000000

/-- R127: under ideal clocks and with the true CLK_HZ written, a wait whose bound is reached has lasted more than
`(TO_CYC − 1) / f` seconds; `TO_CYC / f` is at most TIMEOUT_US microseconds, and equal to it for a whole number of MHz. Step
`a` is W1 and step `b` is the W3 at the bound, of one wait. -/
def Obligations.TimedOutWaitLastsItsSeconds : Prop :=
  ∀ (f g : ℝ) (σ : Nat → AgentAction) (ρ : Nat → State) (τ : Nat → ℝ) (a b : Nat),
    IsRun σ ρ → IdealClocks f g σ ρ τ → BlockInv (ρ a) → ((ρ a).regs.clkHz.toNat : ℝ) = f → a < b →
    σ a = .core → (ρ a).seq.uPC = .w1 → σ b = .core → (ρ b).seq.uPC = .w3 →
    (∀ n, a < n → n ≤ b → (ρ n).seq.uPC ∈ [Label.w2, .w3]) →
    (ρ b).seq.toCyc.toNat ≤ ((ρ b).ext.cyccnt - (ρ b).seq.c0).toNat →
    (((ρ a).seq.toCyc.toNat : ℝ) - 1) / f < τ b - τ a ∧
    ((ρ a).seq.toCyc.toNat : ℝ) / f ≤ ((ρ a).regs.timeoutUs.toNat : ℝ) / 1000000 ∧
    ((ρ a).regs.clkHz.toNat % 1000000 = 0 →
      ((ρ a).seq.toCyc.toNat : ℝ) / f = ((ρ a).regs.timeoutUs.toNat : ℝ) / 1000000)

/-- R185: under ideal clocks with the true rates written, and a latency of `δ` seconds, every CORE step `m` of a MEASURE
command that is issued at step `a`, the step that finishes it among them, comes at most `(N + 2 × TO_CYC + 3) / f + 15 δ`
seconds after the issue, provided `TO_CYC + 2 δ f + 1 < 2^32`. `N` and `TO_CYC` are what V latches. That the command does
finish is FairRunsEndEveryCommand's. -/
def Obligations.MeasureEndsWithinItsSeconds : Prop :=
  ∀ (f g δ : ℝ) (σ : Nat → AgentAction) (ρ : Nat → State) (τ : Nat → ℝ) (a m : Nat) (n bound : ℝ),
    IsRun σ ρ → IdealClocks f g σ ρ τ → Latency δ σ ρ τ → BlockInv (ρ a) → RatesTrue f g (ρ a) → a < m →
    (ρ a).status.busy = false → (∀ c, a < c → c ≤ m → (ρ c).status.busy = true) →
    (ρ (a + 1)).seq.op ∈ [(0x07 : Opcode), 0x08] → σ m = .core →
    n = (triggerCycles (ρ a)).toNat → bound = (timeoutCycles (ρ a)).toNat → bound + 2 * δ * f + 1 < 2 ^ 32 →
    τ m - τ a ≤ (n + 2 * bound + 3) / f + 15 * δ
end

