-- ==== Sys2Proof/Laws/Decode.lean ====
section
/-! SUPPORT. Fields of encoded words, and what an opcode selects. -/

namespace Sys2Proof

/-- The fields of the word a command is encoded in (R80). -/
theorem rsvOf_encode (i : Instr) : rsvOf (encode i) = 0 := by
  cases i with
  | waitEdge level => cases level <;> decide
  | _ => decide

theorem opcOf_encode (i : Instr) : opcOf (encode i) = opcode i := by
  cases i with
  | waitEdge level => cases level <;> decide
  | _ => decide

theorem levelOf_encode (i : Instr) : levelOf (encode i) = levelField i := by
  cases i with
  | waitEdge level => cases level <;> decide
  | _ => decide

/-- A command's opcode and LEVEL field select it (R84). -/
theorem ofOpcode_opcode (i : Instr) : ofOpcode (opcode i) (levelField i) = some i := by
  cases i <;> rfl

/-- What an opcode selects has that opcode, and its LEVEL is the one read where it has one (R82, R84). -/
theorem ofOpcode_some {opc : Opcode} {level : Bool} {i : Instr} (h : ofOpcode opc level = some i) :
    opc = opcode i ∧ (levelField i = level ∨ levelField i = false ∧ opc ≠ 0x03) := by
  have eq (k : Nat) (hk : opc.toNat = k) : opc = BitVec.ofNat 8 k := by
    rw [← hk, BitVec.ofNat_toNat, BitVec.setWidth_eq]
  unfold ofOpcode at h
  split at h <;> first
    | contradiction
    | (rename_i hk; obtain rfl := eq _ hk; cases h; simp [opcode, levelField])

/-- The word is the concatenation of its three fields (R80). -/
theorem word_of_fields (w : Word) : (rsvOf w ++ BitVec.ofBool (levelOf w)) ++ opcOf w = w := by
  apply BitVec.eq_of_getLsbD_eq
  intro k hk
  simp only [rsvOf, levelOf, opcOf, BitVec.getLsbD_append, BitVec.getLsbD_extractLsb', BitVec.getLsbD_ofBool]
  by_cases h8 : k < 8
  · simp [h8]
  · by_cases h9 : k = 8
    · subst h9; simp
    · have hk9 : ¬ (k - 8 < 1) := by omega
      have hk31 : k - 8 - 1 < 23 := by omega
      have : 9 + (k - 8 - 1) = k := by omega
      simp only [h8, hk9, hk31, this, if_false, decide_true, Bool.true_and]

end Sys2Proof
end

