-- ==== Sys2Proof/Laws/State.lean ====
section
/-! SUPPORT. What each state update leaves in each field: one lemma per part it does not touch and one per field of a part
it does, each true by rfl, so that no later proof unfolds a record update. -/

namespace Sys2Proof.Machine

/-! ### setPc -/

@[simp] theorem setPc_status (l : Label) (s : State) : (setPc l s).status = s.status := rfl
@[simp] theorem setPc_regs (l : Label) (s : State) : (setPc l s).regs = s.regs := rfl
@[simp] theorem setPc_uPC (l : Label) (s : State) : (setPc l s).seq.uPC = l := rfl
@[simp] theorem setPc_op (l : Label) (s : State) : (setPc l s).seq.op = s.seq.op := rfl
@[simp] theorem setPc_lvl (l : Label) (s : State) : (setPc l s).seq.lvl = s.seq.lvl := rfl
@[simp] theorem setPc_n (l : Label) (s : State) : (setPc l s).seq.n = s.seq.n := rfl
@[simp] theorem setPc_toCyc (l : Label) (s : State) : (setPc l s).seq.toCyc = s.seq.toCyc := rfl
@[simp] theorem setPc_c0 (l : Label) (s : State) : (setPc l s).seq.c0 = s.seq.c0 := rfl
@[simp] theorem setPc_ext (l : Label) (s : State) : (setPc l s).ext = s.ext := rfl
@[simp] theorem setPc_world (l : Label) (s : State) : (setPc l s).world = s.world := rfl

/-! ### setPhase -/

@[simp] theorem setPhase_busy (p : Phase) (s : State) : (setPhase p s).status.busy = s.status.busy := rfl
@[simp] theorem setPhase_state (p : Phase) (s : State) : (setPhase p s).status.state = p := rfl
@[simp] theorem setPhase_err (p : Phase) (s : State) : (setPhase p s).status.err = s.status.err := rfl
@[simp] theorem setPhase_stage (p : Phase) (s : State) : (setPhase p s).status.stage = s.status.stage := rfl
@[simp] theorem setPhase_initOk (p : Phase) (s : State) : (setPhase p s).status.initOk = s.status.initOk := rfl
@[simp] theorem setPhase_fault (p : Phase) (s : State) : (setPhase p s).status.fault = s.status.fault := rfl
@[simp] theorem setPhase_lastOp (p : Phase) (s : State) : (setPhase p s).status.lastOp = s.status.lastOp := rfl
@[simp] theorem setPhase_regs (p : Phase) (s : State) : (setPhase p s).regs = s.regs := rfl
@[simp] theorem setPhase_seq (p : Phase) (s : State) : (setPhase p s).seq = s.seq := rfl
@[simp] theorem setPhase_ext (p : Phase) (s : State) : (setPhase p s).ext = s.ext := rfl
@[simp] theorem setPhase_world (p : Phase) (s : State) : (setPhase p s).world = s.world := rfl

/-! ### setLvl -/

@[simp] theorem setLvl_status (b : Bool) (s : State) : (setLvl b s).status = s.status := rfl
@[simp] theorem setLvl_regs (b : Bool) (s : State) : (setLvl b s).regs = s.regs := rfl
@[simp] theorem setLvl_uPC (b : Bool) (s : State) : (setLvl b s).seq.uPC = s.seq.uPC := rfl
@[simp] theorem setLvl_op (b : Bool) (s : State) : (setLvl b s).seq.op = s.seq.op := rfl
@[simp] theorem setLvl_lvl (b : Bool) (s : State) : (setLvl b s).seq.lvl = b := rfl
@[simp] theorem setLvl_n (b : Bool) (s : State) : (setLvl b s).seq.n = s.seq.n := rfl
@[simp] theorem setLvl_toCyc (b : Bool) (s : State) : (setLvl b s).seq.toCyc = s.seq.toCyc := rfl
@[simp] theorem setLvl_c0 (b : Bool) (s : State) : (setLvl b s).seq.c0 = s.seq.c0 := rfl
@[simp] theorem setLvl_ext (b : Bool) (s : State) : (setLvl b s).ext = s.ext := rfl
@[simp] theorem setLvl_world (b : Bool) (s : State) : (setLvl b s).world = s.world := rfl

/-! ### setInitOk -/

@[simp] theorem setInitOk_busy (b : Bool) (s : State) : (setInitOk b s).status.busy = s.status.busy := rfl
@[simp] theorem setInitOk_state (b : Bool) (s : State) : (setInitOk b s).status.state = s.status.state := rfl
@[simp] theorem setInitOk_err (b : Bool) (s : State) : (setInitOk b s).status.err = s.status.err := rfl
@[simp] theorem setInitOk_stage (b : Bool) (s : State) : (setInitOk b s).status.stage = s.status.stage := rfl
@[simp] theorem setInitOk_initOk (b : Bool) (s : State) : (setInitOk b s).status.initOk = b := rfl
@[simp] theorem setInitOk_fault (b : Bool) (s : State) : (setInitOk b s).status.fault = s.status.fault := rfl
@[simp] theorem setInitOk_lastOp (b : Bool) (s : State) : (setInitOk b s).status.lastOp = s.status.lastOp := rfl
@[simp] theorem setInitOk_regs (b : Bool) (s : State) : (setInitOk b s).regs = s.regs := rfl
@[simp] theorem setInitOk_seq (b : Bool) (s : State) : (setInitOk b s).seq = s.seq := rfl
@[simp] theorem setInitOk_ext (b : Bool) (s : State) : (setInitOk b s).ext = s.ext := rfl
@[simp] theorem setInitOk_world (b : Bool) (s : State) : (setInitOk b s).world = s.world := rfl

/-! ### latchLimits -/

@[simp] theorem latchLimits_status (s : State) : (latchLimits s).status = s.status := rfl
@[simp] theorem latchLimits_regs (s : State) : (latchLimits s).regs = s.regs := rfl
@[simp] theorem latchLimits_uPC (s : State) : (latchLimits s).seq.uPC = s.seq.uPC := rfl
@[simp] theorem latchLimits_op (s : State) : (latchLimits s).seq.op = s.seq.op := rfl
@[simp] theorem latchLimits_lvl (s : State) : (latchLimits s).seq.lvl = s.seq.lvl := rfl
@[simp] theorem latchLimits_n (s : State) : (latchLimits s).seq.n = triggerCycles s := rfl
@[simp] theorem latchLimits_toCyc (s : State) : (latchLimits s).seq.toCyc = timeoutCycles s := rfl
@[simp] theorem latchLimits_c0 (s : State) : (latchLimits s).seq.c0 = s.seq.c0 := rfl
@[simp] theorem latchLimits_ext (s : State) : (latchLimits s).ext = s.ext := rfl
@[simp] theorem latchLimits_world (s : State) : (latchLimits s).world = s.world := rfl

/-! ### finishOk -/

@[simp] theorem finishOk_busy (s : State) : (finishOk s).status.busy = false := rfl
@[simp] theorem finishOk_state (s : State) : (finishOk s).status.state = .complete := rfl
@[simp] theorem finishOk_err (s : State) : (finishOk s).status.err = .noError := rfl
@[simp] theorem finishOk_stage (s : State) : (finishOk s).status.stage = false := rfl
@[simp] theorem finishOk_initOk (s : State) : (finishOk s).status.initOk = s.status.initOk := rfl
@[simp] theorem finishOk_fault (s : State) : (finishOk s).status.fault = s.status.fault := rfl
@[simp] theorem finishOk_lastOp (s : State) : (finishOk s).status.lastOp = s.seq.op := rfl
@[simp] theorem finishOk_regs (s : State) : (finishOk s).regs = s.regs := rfl
@[simp] theorem finishOk_uPC (s : State) : (finishOk s).seq.uPC = .bot := rfl
@[simp] theorem finishOk_op (s : State) : (finishOk s).seq.op = s.seq.op := rfl
@[simp] theorem finishOk_lvl (s : State) : (finishOk s).seq.lvl = s.seq.lvl := rfl
@[simp] theorem finishOk_n (s : State) : (finishOk s).seq.n = s.seq.n := rfl
@[simp] theorem finishOk_toCyc (s : State) : (finishOk s).seq.toCyc = s.seq.toCyc := rfl
@[simp] theorem finishOk_c0 (s : State) : (finishOk s).seq.c0 = s.seq.c0 := rfl
@[simp] theorem finishOk_ext (s : State) : (finishOk s).ext = s.ext := rfl
@[simp] theorem finishOk_world (s : State) : (finishOk s).world = s.world := rfl

/-! ### raise -/

@[simp] theorem raise_busy (e : ErrKind) (b : Bool) (s : State) : (raise e b s).status.busy = false := rfl
@[simp] theorem raise_state (e : ErrKind) (b : Bool) (s : State) : (raise e b s).status.state = .error := rfl
@[simp] theorem raise_err (e : ErrKind) (b : Bool) (s : State) : (raise e b s).status.err = e := rfl
@[simp] theorem raise_stage (e : ErrKind) (b : Bool) (s : State) : (raise e b s).status.stage = b := rfl
@[simp] theorem raise_initOk (e : ErrKind) (b : Bool) (s : State) : (raise e b s).status.initOk = s.status.initOk := rfl
@[simp] theorem raise_fault (e : ErrKind) (b : Bool) (s : State) : (raise e b s).status.fault = s.status.fault := rfl
@[simp] theorem raise_lastOp (e : ErrKind) (b : Bool) (s : State) : (raise e b s).status.lastOp = s.seq.op := rfl
@[simp] theorem raise_regs (e : ErrKind) (b : Bool) (s : State) : (raise e b s).regs = s.regs := rfl
@[simp] theorem raise_uPC (e : ErrKind) (b : Bool) (s : State) : (raise e b s).seq.uPC = .bot := rfl
@[simp] theorem raise_op (e : ErrKind) (b : Bool) (s : State) : (raise e b s).seq.op = s.seq.op := rfl
@[simp] theorem raise_lvl (e : ErrKind) (b : Bool) (s : State) : (raise e b s).seq.lvl = s.seq.lvl := rfl
@[simp] theorem raise_n (e : ErrKind) (b : Bool) (s : State) : (raise e b s).seq.n = s.seq.n := rfl
@[simp] theorem raise_toCyc (e : ErrKind) (b : Bool) (s : State) : (raise e b s).seq.toCyc = s.seq.toCyc := rfl
@[simp] theorem raise_c0 (e : ErrKind) (b : Bool) (s : State) : (raise e b s).seq.c0 = s.seq.c0 := rfl
@[simp] theorem raise_ext (e : ErrKind) (b : Bool) (s : State) : (raise e b s).ext = s.ext := rfl
@[simp] theorem raise_world (e : ErrKind) (b : Bool) (s : State) : (raise e b s).world = s.world := rfl

/-! ### pinSet -/

@[simp] theorem pinSet_status (b : Bool) (s : State) : (pinSet b s).status = s.status := rfl
@[simp] theorem pinSet_cmd (b : Bool) (s : State) : (pinSet b s).regs.cmd = s.regs.cmd := rfl
@[simp] theorem pinSet_clkHz (b : Bool) (s : State) : (pinSet b s).regs.clkHz = s.regs.clkHz := rfl
@[simp] theorem pinSet_tickHz (b : Bool) (s : State) : (pinSet b s).regs.tickHz = s.regs.tickHz := rfl
@[simp] theorem pinSet_timeoutUs (b : Bool) (s : State) : (pinSet b s).regs.timeoutUs = s.regs.timeoutUs := rfl
@[simp] theorem pinSet_operandUs (b : Bool) (s : State) : (pinSet b s).regs.operandUs = s.regs.operandUs := rfl
@[simp] theorem pinSet_resultTicks (b : Bool) (s : State) : (pinSet b s).regs.resultTicks = s.regs.resultTicks := rfl
@[simp] theorem pinSet_resultUs (b : Bool) (s : State) : (pinSet b s).regs.resultUs = s.regs.resultUs := rfl
@[simp] theorem pinSet_resultCm (b : Bool) (s : State) : (pinSet b s).regs.resultCm = s.regs.resultCm := rfl
@[simp] theorem pinSet_pinsTrig (b : Bool) (s : State) : (pinSet b s).regs.pinsTrig = b := rfl
@[simp] theorem pinSet_echoSeen (b : Bool) (s : State) : (pinSet b s).regs.echoSeen = s.regs.echoSeen := rfl
@[simp] theorem pinSet_seq (b : Bool) (s : State) : (pinSet b s).seq = s.seq := rfl
@[simp] theorem pinSet_trigLine (b : Bool) (s : State) : (pinSet b s).ext.trigLine = b := rfl
@[simp] theorem pinSet_echoLine (b : Bool) (s : State) : (pinSet b s).ext.echoLine = s.ext.echoLine := rfl
@[simp] theorem pinSet_cyccnt (b : Bool) (s : State) : (pinSet b s).ext.cyccnt = s.ext.cyccnt := rfl
@[simp] theorem pinSet_tmrCnt (b : Bool) (s : State) : (pinSet b s).ext.tmrCnt = s.ext.tmrCnt := rfl
@[simp] theorem pinSet_tmrRun (b : Bool) (s : State) : (pinSet b s).ext.tmrRun = s.ext.tmrRun := rfl
@[simp] theorem pinSet_world (b : Bool) (s : State) : (pinSet b s).world = s.world := rfl

/-! ### cycReset -/

@[simp] theorem cycReset_status (s : State) : (cycReset s).status = s.status := rfl
@[simp] theorem cycReset_regs (s : State) : (cycReset s).regs = s.regs := rfl
@[simp] theorem cycReset_seq (s : State) : (cycReset s).seq = s.seq := rfl
@[simp] theorem cycReset_trigLine (s : State) : (cycReset s).ext.trigLine = s.ext.trigLine := rfl
@[simp] theorem cycReset_echoLine (s : State) : (cycReset s).ext.echoLine = s.ext.echoLine := rfl
@[simp] theorem cycReset_cyccnt (s : State) : (cycReset s).ext.cyccnt = 0 := rfl
@[simp] theorem cycReset_tmrCnt (s : State) : (cycReset s).ext.tmrCnt = s.ext.tmrCnt := rfl
@[simp] theorem cycReset_tmrRun (s : State) : (cycReset s).ext.tmrRun = s.ext.tmrRun := rfl
@[simp] theorem cycReset_world (s : State) : (cycReset s).world = s.world := rfl

/-! ### tmrReset -/

@[simp] theorem tmrReset_status (s : State) : (tmrReset s).status = s.status := rfl
@[simp] theorem tmrReset_regs (s : State) : (tmrReset s).regs = s.regs := rfl
@[simp] theorem tmrReset_seq (s : State) : (tmrReset s).seq = s.seq := rfl
@[simp] theorem tmrReset_trigLine (s : State) : (tmrReset s).ext.trigLine = s.ext.trigLine := rfl
@[simp] theorem tmrReset_echoLine (s : State) : (tmrReset s).ext.echoLine = s.ext.echoLine := rfl
@[simp] theorem tmrReset_cyccnt (s : State) : (tmrReset s).ext.cyccnt = s.ext.cyccnt := rfl
@[simp] theorem tmrReset_tmrCnt (s : State) : (tmrReset s).ext.tmrCnt = 0 := rfl
@[simp] theorem tmrReset_tmrRun (s : State) : (tmrReset s).ext.tmrRun = s.ext.tmrRun := rfl
@[simp] theorem tmrReset_world (s : State) : (tmrReset s).world = s.world := rfl

/-! ### tmrStart -/

@[simp] theorem tmrStart_status (s : State) : (tmrStart s).status = s.status := rfl
@[simp] theorem tmrStart_regs (s : State) : (tmrStart s).regs = s.regs := rfl
@[simp] theorem tmrStart_seq (s : State) : (tmrStart s).seq = s.seq := rfl
@[simp] theorem tmrStart_trigLine (s : State) : (tmrStart s).ext.trigLine = s.ext.trigLine := rfl
@[simp] theorem tmrStart_echoLine (s : State) : (tmrStart s).ext.echoLine = s.ext.echoLine := rfl
@[simp] theorem tmrStart_cyccnt (s : State) : (tmrStart s).ext.cyccnt = s.ext.cyccnt := rfl
@[simp] theorem tmrStart_tmrCnt (s : State) : (tmrStart s).ext.tmrCnt = s.ext.tmrCnt := rfl
@[simp] theorem tmrStart_tmrRun (s : State) : (tmrStart s).ext.tmrRun = true := rfl
@[simp] theorem tmrStart_world (s : State) : (tmrStart s).world = s.world := rfl

/-! ### tmrStop -/

@[simp] theorem tmrStop_status (s : State) : (tmrStop s).status = s.status := rfl
@[simp] theorem tmrStop_regs (s : State) : (tmrStop s).regs = s.regs := rfl
@[simp] theorem tmrStop_seq (s : State) : (tmrStop s).seq = s.seq := rfl
@[simp] theorem tmrStop_trigLine (s : State) : (tmrStop s).ext.trigLine = s.ext.trigLine := rfl
@[simp] theorem tmrStop_echoLine (s : State) : (tmrStop s).ext.echoLine = s.ext.echoLine := rfl
@[simp] theorem tmrStop_cyccnt (s : State) : (tmrStop s).ext.cyccnt = s.ext.cyccnt := rfl
@[simp] theorem tmrStop_tmrCnt (s : State) : (tmrStop s).ext.tmrCnt = s.ext.tmrCnt := rfl
@[simp] theorem tmrStop_tmrRun (s : State) : (tmrStop s).ext.tmrRun = false := rfl
@[simp] theorem tmrStop_world (s : State) : (tmrStop s).world = s.world := rfl

/-! ### noteEcho -/

@[simp] theorem noteEcho_status (b : Bool) (s : State) : (noteEcho b s).status = s.status := rfl
@[simp] theorem noteEcho_cmd (b : Bool) (s : State) : (noteEcho b s).regs.cmd = s.regs.cmd := rfl
@[simp] theorem noteEcho_clkHz (b : Bool) (s : State) : (noteEcho b s).regs.clkHz = s.regs.clkHz := rfl
@[simp] theorem noteEcho_tickHz (b : Bool) (s : State) : (noteEcho b s).regs.tickHz = s.regs.tickHz := rfl
@[simp] theorem noteEcho_timeoutUs (b : Bool) (s : State) : (noteEcho b s).regs.timeoutUs = s.regs.timeoutUs := rfl
@[simp] theorem noteEcho_operandUs (b : Bool) (s : State) : (noteEcho b s).regs.operandUs = s.regs.operandUs := rfl
@[simp] theorem noteEcho_resultTicks (b : Bool) (s : State) : (noteEcho b s).regs.resultTicks = s.regs.resultTicks := rfl
@[simp] theorem noteEcho_resultUs (b : Bool) (s : State) : (noteEcho b s).regs.resultUs = s.regs.resultUs := rfl
@[simp] theorem noteEcho_resultCm (b : Bool) (s : State) : (noteEcho b s).regs.resultCm = s.regs.resultCm := rfl
@[simp] theorem noteEcho_pinsTrig (b : Bool) (s : State) : (noteEcho b s).regs.pinsTrig = s.regs.pinsTrig := rfl
@[simp] theorem noteEcho_echoSeen (b : Bool) (s : State) : (noteEcho b s).regs.echoSeen = b := rfl
@[simp] theorem noteEcho_seq (b : Bool) (s : State) : (noteEcho b s).seq = s.seq := rfl
@[simp] theorem noteEcho_ext (b : Bool) (s : State) : (noteEcho b s).ext = s.ext := rfl
@[simp] theorem noteEcho_world (b : Bool) (s : State) : (noteEcho b s).world = s.world := rfl

/-! ### latchStart -/

@[simp] theorem latchStart_status (c : Word) (s : State) : (latchStart c s).status = s.status := rfl
@[simp] theorem latchStart_regs (c : Word) (s : State) : (latchStart c s).regs = s.regs := rfl
@[simp] theorem latchStart_uPC (c : Word) (s : State) : (latchStart c s).seq.uPC = s.seq.uPC := rfl
@[simp] theorem latchStart_op (c : Word) (s : State) : (latchStart c s).seq.op = s.seq.op := rfl
@[simp] theorem latchStart_lvl (c : Word) (s : State) : (latchStart c s).seq.lvl = s.seq.lvl := rfl
@[simp] theorem latchStart_n (c : Word) (s : State) : (latchStart c s).seq.n = s.seq.n := rfl
@[simp] theorem latchStart_toCyc (c : Word) (s : State) : (latchStart c s).seq.toCyc = s.seq.toCyc := rfl
@[simp] theorem latchStart_c0 (c : Word) (s : State) : (latchStart c s).seq.c0 = c := rfl
@[simp] theorem latchStart_ext (c : Word) (s : State) : (latchStart c s).ext = s.ext := rfl
@[simp] theorem latchStart_world (c : Word) (s : State) : (latchStart c s).world = s.world := rfl

/-! ### rejectWord -/

@[simp] theorem rejectWord_busy (w : Word) (s : State) : (rejectWord w s).status.busy = s.status.busy := rfl
@[simp] theorem rejectWord_state (w : Word) (s : State) : (rejectWord w s).status.state = .error := rfl
@[simp] theorem rejectWord_err (w : Word) (s : State) : (rejectWord w s).status.err = .illegalCommand := rfl
@[simp] theorem rejectWord_stage (w : Word) (s : State) : (rejectWord w s).status.stage = false := rfl
@[simp] theorem rejectWord_initOk (w : Word) (s : State) : (rejectWord w s).status.initOk = s.status.initOk := rfl
@[simp] theorem rejectWord_fault (w : Word) (s : State) : (rejectWord w s).status.fault = s.status.fault := rfl
@[simp] theorem rejectWord_lastOp (w : Word) (s : State) : (rejectWord w s).status.lastOp = opcOf w := rfl
@[simp] theorem rejectWord_regs (w : Word) (s : State) : (rejectWord w s).regs = s.regs := rfl
@[simp] theorem rejectWord_seq (w : Word) (s : State) : (rejectWord w s).seq = s.seq := rfl
@[simp] theorem rejectWord_ext (w : Word) (s : State) : (rejectWord w s).ext = s.ext := rfl
@[simp] theorem rejectWord_world (w : Word) (s : State) : (rejectWord w s).world = s.world := rfl

/-! ### startWord -/

@[simp] theorem startWord_busy (w : Word) (s : State) : (startWord w s).status.busy = true := rfl
@[simp] theorem startWord_state (w : Word) (s : State) : (startWord w s).status.state = .idle := rfl
@[simp] theorem startWord_err (w : Word) (s : State) : (startWord w s).status.err = .noError := rfl
@[simp] theorem startWord_stage (w : Word) (s : State) : (startWord w s).status.stage = false := rfl
@[simp] theorem startWord_initOk (w : Word) (s : State) : (startWord w s).status.initOk = s.status.initOk := rfl
@[simp] theorem startWord_fault (w : Word) (s : State) : (startWord w s).status.fault = s.status.fault := rfl
@[simp] theorem startWord_lastOp (w : Word) (s : State) : (startWord w s).status.lastOp = s.status.lastOp := rfl
@[simp] theorem startWord_cmd (w : Word) (s : State) : (startWord w s).regs.cmd = w := rfl
@[simp] theorem startWord_clkHz (w : Word) (s : State) : (startWord w s).regs.clkHz = s.regs.clkHz := rfl
@[simp] theorem startWord_tickHz (w : Word) (s : State) : (startWord w s).regs.tickHz = s.regs.tickHz := rfl
@[simp] theorem startWord_timeoutUs (w : Word) (s : State) : (startWord w s).regs.timeoutUs = s.regs.timeoutUs := rfl
@[simp] theorem startWord_operandUs (w : Word) (s : State) : (startWord w s).regs.operandUs = s.regs.operandUs := rfl
@[simp] theorem startWord_resultTicks (w : Word) (s : State) : (startWord w s).regs.resultTicks = s.regs.resultTicks := rfl
@[simp] theorem startWord_resultUs (w : Word) (s : State) : (startWord w s).regs.resultUs = s.regs.resultUs := rfl
@[simp] theorem startWord_resultCm (w : Word) (s : State) : (startWord w s).regs.resultCm = s.regs.resultCm := rfl
@[simp] theorem startWord_pinsTrig (w : Word) (s : State) : (startWord w s).regs.pinsTrig = s.regs.pinsTrig := rfl
@[simp] theorem startWord_echoSeen (w : Word) (s : State) : (startWord w s).regs.echoSeen = s.regs.echoSeen := rfl
@[simp] theorem startWord_uPC (w : Word) (s : State) : (startWord w s).seq.uPC = .v := rfl
@[simp] theorem startWord_op (w : Word) (s : State) : (startWord w s).seq.op = opcOf w := rfl
@[simp] theorem startWord_lvl (w : Word) (s : State) : (startWord w s).seq.lvl = levelOf w := rfl
@[simp] theorem startWord_n (w : Word) (s : State) : (startWord w s).seq.n = s.seq.n := rfl
@[simp] theorem startWord_toCyc (w : Word) (s : State) : (startWord w s).seq.toCyc = s.seq.toCyc := rfl
@[simp] theorem startWord_c0 (w : Word) (s : State) : (startWord w s).seq.c0 = s.seq.c0 := rfl
@[simp] theorem startWord_ext (w : Word) (s : State) : (startWord w s).ext = s.ext := rfl
@[simp] theorem startWord_world (w : Word) (s : State) : (startWord w s).world = s.world := rfl

/-! ### protocolViolation -/

@[simp] theorem protocolViolation_busy (s : State) : (protocolViolation s).status.busy = s.status.busy := rfl
@[simp] theorem protocolViolation_state (s : State) : (protocolViolation s).status.state = s.status.state := rfl
@[simp] theorem protocolViolation_err (s : State) : (protocolViolation s).status.err = s.status.err := rfl
@[simp] theorem protocolViolation_stage (s : State) : (protocolViolation s).status.stage = s.status.stage := rfl
@[simp] theorem protocolViolation_initOk (s : State) : (protocolViolation s).status.initOk = s.status.initOk := rfl
@[simp] theorem protocolViolation_fault (s : State) : (protocolViolation s).status.fault = true := rfl
@[simp] theorem protocolViolation_lastOp (s : State) : (protocolViolation s).status.lastOp = s.status.lastOp := rfl
@[simp] theorem protocolViolation_regs (s : State) : (protocolViolation s).regs = s.regs := rfl
@[simp] theorem protocolViolation_seq (s : State) : (protocolViolation s).seq = s.seq := rfl
@[simp] theorem protocolViolation_ext (s : State) : (protocolViolation s).ext = s.ext := rfl
@[simp] theorem protocolViolation_world (s : State) : (protocolViolation s).world = s.world := rfl

/-! ### hostReceives -/

@[simp] theorem hostReceives_status (w : Word) (s : State) : (hostReceives w s).status = s.status := rfl
@[simp] theorem hostReceives_regs (w : Word) (s : State) : (hostReceives w s).regs = s.regs := rfl
@[simp] theorem hostReceives_seq (w : Word) (s : State) : (hostReceives w s).seq = s.seq := rfl
@[simp] theorem hostReceives_ext (w : Word) (s : State) : (hostReceives w s).ext = s.ext := rfl
@[simp] theorem hostReceives_script (w : Word) (s : State) : (hostReceives w s).world.script = s.world.script := rfl
@[simp] theorem hostReceives_draws (w : Word) (s : State) : (hostReceives w s).world.draws = s.world.draws := rfl
@[simp] theorem hostReceives_program (w : Word) (s : State) : (hostReceives w s).world.program = s.world.program := rfl
@[simp] theorem hostReceives_hostData (w : Word) (s : State) : (hostReceives w s).world.hostData = some w := rfl

/-! ### resetBlock -/

@[simp] theorem resetBlock_status (s : State) : (resetBlock s).status = Status.reset := rfl
@[simp] theorem resetBlock_regs (s : State) : (resetBlock s).regs = RegFile.reset := rfl
@[simp] theorem resetBlock_seq (s : State) : (resetBlock s).seq = Sequencer.reset := rfl
@[simp] theorem resetBlock_trigLine (s : State) : (resetBlock s).ext.trigLine = false := rfl
@[simp] theorem resetBlock_echoLine (s : State) : (resetBlock s).ext.echoLine = s.ext.echoLine := rfl
@[simp] theorem resetBlock_cyccnt (s : State) : (resetBlock s).ext.cyccnt = s.ext.cyccnt := rfl
@[simp] theorem resetBlock_tmrCnt (s : State) : (resetBlock s).ext.tmrCnt = s.ext.tmrCnt := rfl
@[simp] theorem resetBlock_tmrRun (s : State) : (resetBlock s).ext.tmrRun = s.ext.tmrRun := rfl
@[simp] theorem resetBlock_world (s : State) : (resetBlock s).world = s.world := rfl

/-! ### setPulse -/

@[simp] theorem setPulse_status (ticks us : Word) (s : State) : (setPulse ticks us s).status = s.status := rfl
@[simp] theorem setPulse_cmd (ticks us : Word) (s : State) : (setPulse ticks us s).regs.cmd = s.regs.cmd := rfl
@[simp] theorem setPulse_clkHz (ticks us : Word) (s : State) : (setPulse ticks us s).regs.clkHz = s.regs.clkHz := rfl
@[simp] theorem setPulse_tickHz (ticks us : Word) (s : State) : (setPulse ticks us s).regs.tickHz = s.regs.tickHz := rfl
@[simp] theorem setPulse_timeoutUs (ticks us : Word) (s : State) : (setPulse ticks us s).regs.timeoutUs = s.regs.timeoutUs := rfl
@[simp] theorem setPulse_operandUs (ticks us : Word) (s : State) : (setPulse ticks us s).regs.operandUs = s.regs.operandUs := rfl
@[simp] theorem setPulse_resultTicks (ticks us : Word) (s : State) : (setPulse ticks us s).regs.resultTicks = ticks := rfl
@[simp] theorem setPulse_resultUs (ticks us : Word) (s : State) : (setPulse ticks us s).regs.resultUs = us := rfl
@[simp] theorem setPulse_resultCm (ticks us : Word) (s : State) : (setPulse ticks us s).regs.resultCm = s.regs.resultCm := rfl
@[simp] theorem setPulse_pinsTrig (ticks us : Word) (s : State) : (setPulse ticks us s).regs.pinsTrig = s.regs.pinsTrig := rfl
@[simp] theorem setPulse_echoSeen (ticks us : Word) (s : State) : (setPulse ticks us s).regs.echoSeen = s.regs.echoSeen := rfl
@[simp] theorem setPulse_seq (ticks us : Word) (s : State) : (setPulse ticks us s).seq = s.seq := rfl
@[simp] theorem setPulse_ext (ticks us : Word) (s : State) : (setPulse ticks us s).ext = s.ext := rfl
@[simp] theorem setPulse_world (ticks us : Word) (s : State) : (setPulse ticks us s).world = s.world := rfl

/-! ### setCm -/

@[simp] theorem setCm_status (cm : Word) (s : State) : (setCm cm s).status = s.status := rfl
@[simp] theorem setCm_cmd (cm : Word) (s : State) : (setCm cm s).regs.cmd = s.regs.cmd := rfl
@[simp] theorem setCm_clkHz (cm : Word) (s : State) : (setCm cm s).regs.clkHz = s.regs.clkHz := rfl
@[simp] theorem setCm_tickHz (cm : Word) (s : State) : (setCm cm s).regs.tickHz = s.regs.tickHz := rfl
@[simp] theorem setCm_timeoutUs (cm : Word) (s : State) : (setCm cm s).regs.timeoutUs = s.regs.timeoutUs := rfl
@[simp] theorem setCm_operandUs (cm : Word) (s : State) : (setCm cm s).regs.operandUs = s.regs.operandUs := rfl
@[simp] theorem setCm_resultTicks (cm : Word) (s : State) : (setCm cm s).regs.resultTicks = s.regs.resultTicks := rfl
@[simp] theorem setCm_resultUs (cm : Word) (s : State) : (setCm cm s).regs.resultUs = s.regs.resultUs := rfl
@[simp] theorem setCm_resultCm (cm : Word) (s : State) : (setCm cm s).regs.resultCm = cm := rfl
@[simp] theorem setCm_pinsTrig (cm : Word) (s : State) : (setCm cm s).regs.pinsTrig = s.regs.pinsTrig := rfl
@[simp] theorem setCm_echoSeen (cm : Word) (s : State) : (setCm cm s).regs.echoSeen = s.regs.echoSeen := rfl
@[simp] theorem setCm_seq (cm : Word) (s : State) : (setCm cm s).seq = s.seq := rfl
@[simp] theorem setCm_ext (cm : Word) (s : State) : (setCm cm s).ext = s.ext := rfl
@[simp] theorem setCm_world (cm : Word) (s : State) : (setCm cm s).world = s.world := rfl

end Sys2Proof.Machine
end

