-- ==== Sys2Proof/Laws/Ops.lean ====
section
/-! SUPPORT. What each shared operation can do, once; and how the step, the actions and the runs fit together. -/

namespace Sys2Proof.Machine

/-! ### The quantities V computes depend on three registers only -/

theorem cpuUs_congr {s t : State} (h : s.regs.clkHz = t.regs.clkHz) : cpuUs s = cpuUs t := by
  simp only [cpuUs, h]

theorem triggerCycles_congr {s t : State} (h : s.regs.clkHz = t.regs.clkHz) : triggerCycles s = triggerCycles t := by
  simp only [triggerCycles, ClkOk, cpuUs_congr h]

theorem timeoutCycles_congr {s t : State} (h : s.regs.clkHz = t.regs.clkHz) (h' : s.regs.timeoutUs = t.regs.timeoutUs) :
    timeoutCycles s = timeoutCycles t := by
  simp only [timeoutCycles, ToOk, ClkOk, cpuUs_congr h, h']

theorem clkOk_iff (s : State) : ClkOk s ↔ 1000000 ≤ s.regs.clkHz.toNat := by
  simp only [ClkOk, cpuUs]; omega

/-- `to_us` at a rate other than 0 (R144). -/
theorem toUs_of_ne_zero {rate : Word} (h : rate ≠ 0) (k : Word) :
    toUs rate k = BitVec.ofNat 32 (min (k.toNat * 1000000 / rate.toNat) 4294967295) := by
  unfold toUs
  split
  · exact absurd (BitVec.eq_of_toNat_eq (by simpa using ‹_›)) h
  · simp only [‹rate.toNat = _›]

/-- `to_cm` is one rounding for every input, 0 too (R160). -/
theorem toCmBits_eq_rne32 (us : Word) : toCmBits us = rne32 us.toNat 58 := by
  unfold toCmBits
  split
  · rename_i h; rw [h]; decide
  · rename_i h; rw [h]

/-! ### Issue and the host's accesses -/

theorem issue_legal {w : Word} {i : Instr} (h : decode w = .ok i) (s : State) : issue w s = startWord w s := by
  simp [issue, h]

theorem issue_illegal {w : Word} (h : ∀ i, decode w ≠ .ok i) (s : State) : issue w s = rejectWord w s := by
  unfold issue
  split
  · exact absurd ‹_› (h _)
  · rfl

theorem whenIdle_busy {s : State} (f : State → State) (h : s.status.busy = true) : whenIdle f s = protocolViolation s := by
  simp [whenIdle, h]

theorem whenIdle_idle {s : State} (f : State → State) (h : s.status.busy = false) : whenIdle f s = f s := by
  simp [whenIdle, h]

/-- Everything a register write can do to the state (R65). -/
theorem regWrite_cases (i : Slot) (v : Word) (s : State) :
    regWrite i v s = s ∨
    (s.status.busy = true ∧ regWrite i v s = protocolViolation s) ∨
    (s.status.busy = false ∧
      (regWrite i v s = issue v s ∨
       regWrite i v s = { s with regs.clkHz := v, status.initOk := false } ∨
       regWrite i v s = { s with regs.tickHz := v, status.initOk := false } ∨
       regWrite i v s = { s with regs.timeoutUs := v, status.initOk := false } ∨
       regWrite i v s = { s with regs.operandUs := v })) := by
  cases hb : s.status.busy <;> simp only [regWrite, whenIdle, hb] <;> split <;> simp

/-- Everything a host access can do: it reads, it writes a register, or it is refused (R62, R64, R65). -/
theorem hostAccess_cases (h : HostAccess) (s : State) :
    (∃ w, hostAccess h s = .next (hostReceives w s)) ∨
    (∃ i v, hostAccess h s = .next (regWrite i v s)) ∨
    (hostAccess h s = .refused .busAccessNotAdmitted ∧ h.wf = false) := by
  cases h with
  | regRead i => exact .inl ⟨_, rfl⟩
  | regWrite i v => exact .inr (.inl ⟨i, v, rfl⟩)
  | memRead addr n =>
    cases hb : busAdmitted addr n
    · exact .inr (.inr ⟨by simp [hostAccess, busRead, busSlot, hb], hb⟩)
    · exact .inl ⟨_, by simp only [hostAccess, busRead, busSlot, hb]; rfl⟩
  | memWrite addr n v =>
    cases hb : busAdmitted addr n
    · exact .inr (.inr ⟨by simp [hostAccess, busWrite, busSlot, hb], hb⟩)
    · exact .inr (.inl ⟨_, v, by simp only [hostAccess, busWrite, busSlot, hb]; rfl⟩)

/-- Everything a statement of the host's program can do: at most one register write or one read, and the program itself
moves (R91). -/
theorem programTurn_cases (s : State) :
    programTurn s = s ∨
    (∃ p i v, programTurn s = regWrite i v { s with world.program := p }) ∨
    (∃ p w, programTurn s = hostReceives w { s with world.program := p }) := by
  unfold programTurn
  split
  · exact .inl rfl
  · exact .inr (.inl ⟨_, _, _, rfl⟩)
  · exact .inr (.inr ⟨_, _, rfl⟩)
  · exact .inr (.inl ⟨_, _, _, rfl⟩)
  · split
    · exact .inr (.inr ⟨s.world.program, _, rfl⟩)
    · exact .inr (.inr ⟨_, _, rfl⟩)

/-! ### The environment -/

theorem envStep_status (e : EnvStep) (s : State) : (envStep e s).status = s.status := by
  cases e <;> first | rfl | (simp only [envStep]; split <;> rfl)

theorem envStep_regs (e : EnvStep) (s : State) : (envStep e s).regs = s.regs := by
  cases e <;> first | rfl | (simp only [envStep]; split <;> rfl)

theorem envStep_seq (e : EnvStep) (s : State) : (envStep e s).seq = s.seq := by
  cases e <;> first | rfl | (simp only [envStep]; split <;> rfl)

theorem envStep_world (e : EnvStep) (s : State) : (envStep e s).world = s.world := by
  cases e <;> first | rfl | (simp only [envStep]; split <;> rfl)

theorem envStep_trigLine (e : EnvStep) (s : State) : (envStep e s).ext.trigLine = s.ext.trigLine := by
  cases e <;> first | rfl | (simp only [envStep]; split <;> rfl)

theorem envStep_tmrRun (e : EnvStep) (s : State) : (envStep e s).ext.tmrRun = s.ext.tmrRun := by
  cases e <;> first | rfl | (simp only [envStep]; split <;> rfl)

/-- The cycle counter after a step of ENV (R68). -/
theorem envStep_cyccnt (e : EnvStep) (s : State) :
    (envStep e s).ext.cyccnt = s.ext.cyccnt + BitVec.ofNat 32 (match e with | .cyc k => k | .tmr _ => 0 | .echo _ => 0) := by
  cases e with
  | cyc k => rfl
  | tmr k =>
    simp only [envStep, BitVec.add_zero]
    split <;> rfl
  | echo b => simp [envStep]

/-! ### The sequencer's branching micro-steps -/

theorem microT3_reached {s : State} (h : s.seq.n ≤ s.ext.cyccnt) : microT3 s = setPc .t4 s := by
  simp [microT3, cycRead, h]

theorem microT3_waiting {s : State} (h : ¬ s.seq.n ≤ s.ext.cyccnt) : microT3 s = setPc .t3 s := by
  simp only [microT3, cycRead, h, if_false]

theorem microW2_hit {s : State} {target : Bool} (hit : State → State) (h : s.ext.echoLine = target) :
    microW2 target hit s = hit (noteEcho s.ext.echoLine s) := by
  simp [microW2, pinRead, h]

theorem microW2_miss {s : State} {target : Bool} (hit : State → State) (h : s.ext.echoLine ≠ target) :
    microW2 target hit s = setPc .w3 (noteEcho s.ext.echoLine s) := by
  simp [microW2, pinRead, h]

theorem microW3_late {s : State} (late : State → State) (h : s.seq.toCyc ≤ s.ext.cyccnt - s.seq.c0) :
    microW3 late s = late s := by
  simp [microW3, cycRead, h]

theorem microW3_early {s : State} (late : State → State) (h : ¬ s.seq.toCyc ≤ s.ext.cyccnt - s.seq.c0) :
    microW3 late s = setPc .w2 s := by
  simp only [microW3, cycRead, h, if_false]

/-- A state whose uPC is already at the label is left as it is. -/
theorem setPc_self {l : Label} {s : State} (h : s.seq.uPC = l) : setPc l s = s := by
  subst h; rfl

/-! ### CORE, actions and runs -/

theorem coreTurn_idle {s : State} (h : s.status.busy = false) : coreTurn s = .next s := by
  simp [coreTurn, h]

theorem coreTurn_busy {s : State} {i : Instr} (h : s.status.busy = true) (hi : runningCommand s = some i) :
    coreTurn s = exec i s := by
  simp [coreTurn, h, hi]

/-- Where the latches name WAIT_EDGE, its LEVEL operand is what the latch `lvl` holds (R41, R73; log 14). -/
theorem lvl_of_runningCommand {s : State} {level : Bool} (h : runningCommand s = some (.waitEdge level)) :
    s.seq.lvl = level := by
  unfold runningCommand ofOpcode at h
  split at h <;> cases h
  rfl

/-- A step performs one action on a state that differs from the one before in the inputs of the run alone (R10, R69). -/
theorem step_eq_perform (s : State) :
    ∃ s', step s = perform (nextAction s).1 s' ∧ s' = (nextAction s).2 ∧
      s'.status = s.status ∧ s'.regs = s.regs ∧ s'.seq = s.seq ∧ s'.ext = s.ext := by
  refine ⟨(nextAction s).2, rfl, rfl, ?_⟩
  unfold nextAction
  split <;> exact ⟨rfl, rfl, rfl, rfl⟩

/-- A run of a list is the run of its first part and then of the rest. -/
theorem runActions_append {as bs : List AgentAction} {s t : State} (h : runActions as s = .next t) :
    runActions (as ++ bs) s = runActions bs t := by
  induction as generalizing s with
  | nil => cases h; rfl
  | cons a rest ih =>
    simp only [List.cons_append, runActions] at h ⊢
    split at h
    · exact ih h
    · cases h
    · cases h

theorem runActions_cons {a : AgentAction} {as : List AgentAction} {s t : State} (h : perform a s = .next t) :
    runActions (a :: as) s = runActions as t := by
  simp [runActions, h]

/-- Everything a run of ENV steps can do: the external state moves, the trigger line and whether the timer runs stay, and
the count advances by the steps' sum while the timer runs (R68). -/
theorem runActions_env (steps : List EnvStep) (s : State) :
    ∃ x : External, runActions (steps.map .env) s = .next { s with ext := x } ∧
      x.trigLine = s.ext.trigLine ∧ x.tmrRun = s.ext.tmrRun ∧
      (s.ext.tmrRun = true → x.tmrCnt = s.ext.tmrCnt
        + BitVec.ofNat Config.timerWidth (steps.map (fun e => tmrAdvance (.env e))).sum) ∧
      (s.ext.tmrRun = false → x.tmrCnt = s.ext.tmrCnt) := by
  induction steps generalizing s with
  | nil => exact ⟨s.ext, rfl, rfl, rfl, by simp, by simp⟩
  | cons e rest ih =>
    obtain ⟨x, run, trig, keeps, counts, holds⟩ := ih (envStep e s)
    rw [envStep_tmrRun] at keeps counts holds
    refine ⟨x, ?_, trig.trans (envStep_trigLine e s), keeps, fun h => ?_, fun h => ?_⟩
    · rw [List.map_cons, runActions_cons (t := envStep e s) rfl, run]
      simp only [envStep_status, envStep_regs, envStep_seq, envStep_world]
    · rw [counts h]
      cases e <;> simp [envStep, h, tmrAdvance, BitVec.ofNat_add, BitVec.add_assoc]
    · rw [holds h]
      cases e <;> simp [envStep, h]

/-- Every command's step goes on, or stops at a label its micro-program does not have. -/
theorem exec_next_or_stray (i : Instr) (s : State) : (∃ t, exec i s = .next t) ∨ exec i s = .fault .strayLabel := by
  cases i <;>
    simp only [exec, execInit, execTrigger, execWaitEdge, execTimerStart, execTimerStopRead, execToCm, execMeasureUs,
      execMeasureCm, measureStep] <;>
    split <;> first | exact .inl ⟨_, rfl⟩ | exact .inr rfl

end Sys2Proof.Machine
end

