-- ==== Sys2Proof/Laws/PerInstr.lean ====
section
/-! SUPPORT. A fact about every command as syntax, one lemma per constructor: its word is legal by R85 and some row of the
opcode map with its mnemonic accepts it. -/

namespace Sys2Proof.Laws

/-- The word of a well-formed command is legal, and the opcode map's row of its mnemonic accepts it (R84, R85). -/
def Encoding.Statement (i : Instr) : Prop :=
  i.wf = true → legalWord (encode i) = true ∧
    (opcodeRows.filter (fun r => rowAccepts r (encode i))).map (fun r => r.mnemonic) = [mnemonic i]

theorem Encoding.init : Encoding.Statement .init := fun _ => by decide

theorem Encoding.trigger : Encoding.Statement .trigger := fun _ => by decide

theorem Encoding.waitEdge (level : Bool) : Encoding.Statement (.waitEdge level) := fun _ => by
  cases level <;> decide

theorem Encoding.timerStart : Encoding.Statement .timerStart := fun _ => by decide

theorem Encoding.timerStopRead : Encoding.Statement .timerStopRead := fun _ => by decide

theorem Encoding.toCm : Encoding.Statement .toCm := fun _ => by decide

theorem Encoding.measureUs : Encoding.Statement .measureUs := fun _ => by decide

theorem Encoding.measureCm : Encoding.Statement .measureCm := fun _ => by decide

end Sys2Proof.Laws
end

