-- ==== Sys2Proof/Tests/Slice0.lean ====
section
/-! SUPPORT. Small tests, their expected values taken from spec/95_test_vectors.md or written out from the rules, and for
each statement with hypotheses a witness that meets them. -/

open Sys2Proof Sys2Proof.Machine

namespace Sys2Proof.Tests

/-! ### Well-formedness: ill-formed terms are refused -/

theorem test_legal_word_checks :
    legalWord 0x00000103 = true ∧ legalWord 0x00000203 = false ∧ legalWord 0x00000009 = false ∧
    legalWord 0x00000000 = false ∧ legalWord 0x00000102 = false := by decide

theorem test_env_step_of_zero_refused :
    (EnvStep.cyc 0).wf = false ∧ (EnvStep.tmr 0).wf = false ∧ (EnvStep.cyc 1).wf = true ∧
    (AgentAction.env (.cyc 0)).wf = false := by decide

theorem test_bus_half_word_refused : (HostAccess.memRead Config.blockBase 2).wf = false := by
  simp [HostAccess.wf, busAdmitted]

theorem test_bus_misaligned_refused : (HostAccess.memWrite (Config.blockBase + 2) 4 0).wf = false := by
  simp [HostAccess.wf, busAdmitted]

theorem test_bus_past_window_refused :
    (HostAccess.memRead (Config.blockBase + 64) 4).wf = false ∧ (HostAccess.memRead (Config.blockBase + 60) 4).wf = true := by
  simp [HostAccess.wf, busAdmitted]

/-! ### Decoding: words written out from the format of R80 (RSV 23 bits, LEVEL, OPC) -/

theorem test_decode_init : decode (0b00000000000000000000000#23 ++ 0b0#1 ++ 0b00000001#8) = .ok .init := by decide

theorem test_decode_trigger : decode (0b00000000000000000000000#23 ++ 0b0#1 ++ 0b00000010#8) = .ok .trigger := by decide

theorem test_decode_wait_edge :
    decode (0b00000000000000000000000#23 ++ 0b1#1 ++ 0b00000011#8) = .ok (.waitEdge true) ∧
    decode (0b00000000000000000000000#23 ++ 0b0#1 ++ 0b00000011#8) = .ok (.waitEdge false) := by decide

theorem test_decode_timer_start :
    decode (0b00000000000000000000000#23 ++ 0b0#1 ++ 0b00000100#8) = .ok .timerStart := by decide

theorem test_decode_timer_stop_read :
    decode (0b00000000000000000000000#23 ++ 0b0#1 ++ 0b00000101#8) = .ok .timerStopRead := by decide

theorem test_decode_to_cm : decode (0b00000000000000000000000#23 ++ 0b0#1 ++ 0b00000110#8) = .ok .toCm := by decide

theorem test_decode_measure_us :
    decode (0b00000000000000000000000#23 ++ 0b0#1 ++ 0b00000111#8) = .ok .measureUs := by decide

theorem test_decode_measure_cm :
    decode (0b00000000000000000000000#23 ++ 0b0#1 ++ 0b00001000#8) = .ok .measureCm := by decide

/-- ENC-10 to ENC-17: the illegal words, each rejected for the field that is wrong. -/
theorem test_decode_illegal :
    decode 0x00000000 = .error .undefinedOpcode ∧ decode 0x00000009 = .error .undefinedOpcode ∧
    decode 0x000000FF = .error .undefinedOpcode ∧ decode 0x00000102 = .error .levelNotAllowed ∧
    decode 0x00000107 = .error .levelNotAllowed ∧ decode 0x00000203 = .error .reservedBits ∧
    decode 0x00000303 = .error .reservedBits ∧ decode 0x80000002 = .error .reservedBits := by decide

/-- R90, R96. -/
theorem test_assemble :
    assemble "WAIT_RISE" = some 0x00000103 ∧ assemble "WAIT_FALL" = some 0x00000003 ∧
    assemble "MEASURE_CM" = some 0x00000008 ∧ assemble "WAIT_EDGE" = none := by decide

theorem test_table_word : decodeTableWord 32 0x00000103 = some (.waitEdge true) ∧ decodeTableWord 32 0x00000102 = none := by
  decide

/-! ### Small states -/

/-- The external state of the vectors' default: everything 0 (section 0). -/
def quiet : External := { trigLine := false, echoLine := false, cyccnt := 0, tmrCnt := 0, tmrRun := false }

/-- After reset in quiet surroundings. -/
def fresh : State := { State.reset with ext := quiet }

/-- With CLK_HZ = 1 000 000 (N = 10) and TIMEOUT_US = 4 (TO_CYC = 4) written. -/
def ready : State := { fresh with regs.clkHz := 1000000, regs.timeoutUs := 4 }

/-- Command `i` running at label `l`, its word issued on `ready`. -/
def at_ (i : Instr) (l : Label) : State :=
  { startWord (encode i) ready with seq.uPC := l, seq.n := 10, seq.toCyc := 4 }

/-- What a step leads to, where it leads on. -/
def after (o : Host.Outcome State Fault Refusal) : State :=
  match o with
  | .next t => t
  | .fault _ => fresh
  | .refused _ => fresh

/-- The word STATUS reads. -/
def statusOf (o : Host.Outcome State Fault Refusal) : Word := regRead 1 (after o)

/-! ### Issue and the host's accesses (section 2.1) -/

/-- ENC-3, ENC-13, ENC-16. -/
theorem test_issue_status :
    statusOf (perform (.host (.regWrite 0 0x00000103)) fresh) = 0x00000001 ∧
    statusOf (perform (.host (.regWrite 0 0x00000102)) fresh) = 0x0002003C ∧
    statusOf (perform (.host (.regWrite 0 0x00000303)) fresh) = 0x0003003C := by decide

/-- ENC-18, P6 #7: a write while TRIGGER is at T3. -/
theorem test_write_while_busy :
    statusOf (perform (.host (.regWrite 4 7))
      { at_ .trigger .t3 with status.lastOp := 3, status.state := .triggering }) = 0x00030103 := by decide

/-- The host reads 0x000F4240 in slot 3 after reset (R55). -/
theorem test_read_tick_hz : (after (perform (.host (.regRead 3)) fresh)).world.hostData = some 0x000F4240 := by decide

/-! ### One step of each command -/

/-- INIT-1 and INIT-2. -/
theorem test_init :
    statusOf (exec .init (startWord 0x00000001 fresh)) = 0x0001002C ∧
    statusOf (exec .init (startWord 0x00000001 { fresh with regs.clkHz := 72000000 })) = 0x0001008A := by decide

/-- INIT-5, INIT-6, INIT-8: the limits of TIMEOUT_US. -/
theorem test_init_limits :
    statusOf (exec .init (startWord 0x00000001 { fresh with regs.clkHz := 1000000, regs.timeoutUs := 0xFFFFFFFF }))
      = 0x0001008A ∧
    statusOf (exec .init (startWord 0x00000001 { fresh with regs.clkHz := 2000000, regs.timeoutUs := 0xFFFFFFFF }))
      = 0x0001002C ∧
    statusOf (exec .init (startWord 0x00000001 { fresh with regs.clkHz := 0xFFFFFFFF, regs.timeoutUs := 1000226 }))
      = 0x0001002C := by decide

/-- TRG-1 and TRG-4: V of TRIGGER. -/
theorem test_trigger_validate :
    statusOf (exec .trigger (startWord 0x00000002 fresh)) = 0x0002002C ∧
    (after (exec .trigger (startWord 0x00000002 { fresh with regs.clkHz := 72500000 }))).seq.n = 720 := by decide

/-- The end of TRIGGER (TRG-2). -/
theorem test_trigger_end :
    statusOf (exec .trigger { at_ .trigger .t4 with ext.trigLine := true, regs.pinsTrig := true }) = 0x0002000A ∧
    (after (exec .trigger { at_ .trigger .t4 with ext.trigLine := true })).ext.trigLine = false := by decide

/-- WE-4 and WE-6: the bound reached, at level 1 and at level 0. -/
theorem test_wait_timeout :
    statusOf (exec (.waitEdge true) { at_ (.waitEdge true) .w3 with ext.cyccnt := 4 }) = 0x0003001C ∧
    statusOf (exec (.waitEdge false) { at_ (.waitEdge false) .w3 with ext.cyccnt := 4 }) = 0x0003005C := by decide

/-- WE-8: the difference is taken across the wrap of the counter. -/
theorem test_wait_across_wrap :
    (after (exec (.waitEdge true) { at_ (.waitEdge true) .w3 with seq.c0 := 0xFFFFFFFE, ext.cyccnt := 1 })).seq.uPC = .w2 ∧
    (after (exec (.waitEdge true) { at_ (.waitEdge true) .w3 with seq.c0 := 0xFFFFFFFE, ext.cyccnt := 2 })).seq.uPC = .bot := by
  decide

/-- PT-1: the timer is reset and then started. -/
theorem test_timer_start :
    (after (exec .timerStart { at_ .timerStart .s1 with ext.tmrCnt := 777 })).ext.tmrCnt = 0 ∧
    statusOf (exec .timerStart (at_ .timerStart .s2)) = 0x0004000A ∧
    (after (exec .timerStart (at_ .timerStart .s2))).ext.tmrRun = true := by decide

/-- P3 #7: nine ticks at 500 kHz are 18 microseconds. -/
theorem test_timer_stop_read :
    (after (exec .timerStopRead { at_ .timerStopRead .p2 with ext.tmrCnt := 9, regs.tickHz := 500000 })).regs.resultUs = 18 ∧
    statusOf (exec .timerStopRead (at_ .timerStopRead .p2)) = 0x0005000A := by decide

/-- P4 #12: TICK_HZ = 0, and the timer is not stopped. -/
theorem test_timer_stop_read_rejected :
    statusOf (exec .timerStopRead { at_ .timerStopRead .v with regs.tickHz := 0, ext.tmrRun := true }) = 0x0005002C ∧
    (after (exec .timerStopRead { at_ .timerStopRead .v with regs.tickHz := 0, ext.tmrRun := true })).ext.tmrRun = true := by
  decide

/-- DC-6: 580 microseconds are 10.0 centimetres. -/
theorem test_to_cm :
    (after (exec .toCm { at_ .toCm .c1 with regs.operandUs := 580 })).regs.resultCm = 0x41200000 ∧
    statusOf (exec .toCm { at_ .toCm .c1 with regs.operandUs := 580 }) = 0x0006000A := by decide

/-- MS-1: 580 ticks at 1 MHz; and MS-3: X1 stops the timer. -/
theorem test_measure_us :
    (after (exec .measureUs { at_ .measureUs .p2 with ext.tmrCnt := 580 })).regs.resultUs = 0x00000244 ∧
    statusOf (exec .measureUs { at_ .measureUs .x1 with ext.tmrRun := true }) = 0x0007005C ∧
    (after (exec .measureUs { at_ .measureUs .x1 with ext.tmrRun := true })).ext.tmrRun = false := by decide

/-- MS-5: the distance comes from the scaled microseconds. -/
theorem test_measure_cm :
    (after (exec .measureCm { at_ .measureCm .p2 with ext.tmrCnt := 1160, regs.tickHz := 2000000 })).regs.resultCm = 0x41200000 ∧
    statusOf (exec .measureCm { at_ .measureCm .p2 with ext.tmrCnt := 1160, regs.tickHz := 2000000 }) = 0x0008000A := by decide

/-! ### Arithmetic (sections 2.5, 2.6) -/

/-- R146: saturation and flooring. -/
theorem test_to_us :
    toUs 500000 0xFFFFFFFF = 0xFFFFFFFF ∧ toUs 3 1 = 333333 ∧ toUs 1000000 12345 = 12345 ∧ toUs 2000000 1160 = 580 := by
  decide

/-- DC-4, DC-12, DC-18 to DC-22. -/
theorem test_to_cm_patterns :
    toCmBits 18 = 0x3E9EE584 ∧ toCmBits 1000 = 0x4189EE58 ∧ toCmBits 999999 = 0x4686B2B9 ∧
    toCmBits 1234567 = 0x46A64B47 ∧ toCmBits 16777217 = 0x488D3DCC ∧ toCmBits 0xFFFFFFFF = 0x4C8D3DCB := by decide

/-! ### States that meet the invariant -/

/-- Command `i` running at label `l` with target level `lvl`, everything as the invariant has it. -/
def running (i : Instr) (l : Label) (lvl : Bool) : State :=
  { at_ i l with
    seq.lvl := lvl, status.state := phaseAt i lvl l
    ext.trigLine := decide (l ∈ [Label.t2, .t3, .t4]), regs.pinsTrig := decide (l ∈ [Label.t2, .t3, .t4]) }

theorem blockInv_of_running {s : State} (i : Instr)
    (h : s.status.busy = true ∧ s.seq.uPC ≠ .bot ∧ s.regs.pinsTrig = s.ext.trigLine ∧
      (s.ext.trigLine = true ↔ s.seq.uPC ∈ [Label.t2, .t3, .t4]) ∧ s.status.err = .noError ∧
      s.status.state ≠ .error ∧ s.status.stage = false ∧ legalWord s.regs.cmd = true ∧
      s.seq.op = opcOf s.regs.cmd ∧ runningCommand s = some i ∧ s.seq.uPC ∈ microProgram i ∧
      s.status.state = phaseAt i s.seq.lvl s.seq.uPC ∧ CfgOk s ∧ s.seq.n = triggerCycles s ∧
      s.seq.toCyc = timeoutCycles s ∧
      (isMeasure i = true → s.seq.uPC ∈ [Label.t1, .t2, .t3, .t4, .s1, .s2] → s.seq.lvl = true) ∧
      (isMeasure i = true → s.seq.uPC ∈ [Label.p1, .p2, .x1] → s.seq.lvl = false)) : BlockInv s := by
  obtain ⟨busy, label, mirror, trig, err, phase, stage, cmd, op, runs, inProgram, shows, cfg, n, bound, rise, fall⟩ := h
  have passes : ConfigPasses s i := by
    cases i
    · exact cfg
    · exact cfg.1
    · exact cfg.2.2
    · exact True.intro
    · exact cfg.2.1
    · exact True.intro
    · exact cfg
    · exact cfg
  exact
    { busy_iff := by simp [busy, label], trig_mirrored := mirror, trig_high_iff := trig
      err_iff := by simp [err, phase], stage_timeout := by simp [stage], rest_phase := by simp [busy]
      cmd_legal := .inr cmd, op_of_cmd := fun _ => op
      running := fun _ => ⟨i, runs, inProgram, shows, fun _ => ⟨passes, n, bound⟩, rise, fall⟩ }

theorem blockInv_of_idle {s : State}
    (h : s.status.busy = false ∧ s.seq.uPC = .bot ∧ s.regs.pinsTrig = s.ext.trigLine ∧ s.ext.trigLine = false ∧
      (s.status.err ≠ .noError ↔ s.status.state = .error) ∧ (s.status.stage = true → s.status.err = .timeout) ∧
      s.status.state ∈ [Phase.idle, .complete, .error] ∧ (s.regs.cmd = 0 ∨ legalWord s.regs.cmd = true)) :
    BlockInv s := by
  obtain ⟨busy, label, mirror, trig, err, stage, phase, cmd⟩ := h
  exact
    { busy_iff := by simp [busy, label], trig_mirrored := mirror, trig_high_iff := by simp [trig, label]
      err_iff := err, stage_timeout := stage, rest_phase := fun _ => phase
      cmd_legal := cmd, op_of_cmd := by simp [busy], running := by simp [busy] }

/-! ### Witnesses: the hypotheses of each statement can be met -/

theorem witness_DecodeAndEncodeAreInverse :
    (Instr.waitEdge true).wf = true ∧ decode 0x00000103 = .ok (.waitEdge true) := by decide

theorem witness_LegalWordsAreTheCommandWords :
    (∃ r ∈ opcodeRows, ∃ r' ∈ opcodeRows, (0x00000103 : Word) &&& r.mask = r.value ∧ (0x00000103 : Word) &&& r'.mask = r'.value) := by
  decide

theorem witness_IssueStartsOrRejects :
    fresh.status.busy = false ∧ decode 0x00000103 = .ok (.waitEdge true) ∧ (∀ i, decode 0x00000009 ≠ .ok i) :=
  by
  refine ⟨by decide, by decide, fun i => ?_⟩
  have h : decode 0x00000009 = .error .undefinedOpcode := by decide
  rw [h]
  exact fun h => nomatch h

theorem witness_WriteWhileBusyOnlySetsFault :
    (running .trigger .t3 false).status.busy = true ∧ (5 : Slot) ∈ [(0 : Slot), 2, 3, 4, 5] ∧
    (15 : Slot) ∈ [(1 : Slot), 6, 7, 8, 9, 10, 11, 12, 13, 14, 15] ∧
    ∃ t, perform (.host (.regRead 1)) (running .trigger .t3 false) = .next t :=
  ⟨by decide, by decide, by decide, _, rfl⟩

theorem witness_ConfigurationWritesClearInitOk : ready.status.busy = false := by decide

theorem witness_ReservedReadsZeroAndIgnoresWrites :
    10 ≤ (10 : Slot).val ∧ 10 ≤ (15 : Slot).val ∧ (9 : Slot) ∈ [(1 : Slot), 6, 7, 8, 9] := by decide

theorem witness_OnlyAlignedWordAccessesOfTheWindow :
    Config.blockBase + 60 = Config.blockBase + 4 * (15 : Slot).val ∧
    (∀ i : Slot, Config.blockBase + 64 ≠ Config.blockBase + 4 * i.val) ∧
    (∀ i : Slot, Config.blockBase + 62 ≠ Config.blockBase + 4 * i.val) ∧ (2 : Nat) ≠ 4 :=
  ⟨rfl, fun i => by omega, fun i => by omega, by decide⟩

theorem witness_HostCannotDisturbARunningCommand :
    (running .trigger .t3 false).status.busy = true ∧
    (∃ t, perform (.host (.regWrite 0 8)) (running .trigger .t3 false) = .next t) ∧
    ∃ t, perform .program (running .trigger .t3 false) = .next t :=
  ⟨by decide, ⟨_, rfl⟩, ⟨_, rfl⟩⟩

/-- A host program at each of its five kinds of statement, WAITIDLE before a running and an idle command. -/
theorem witness_HostProgramStatements :
    { ready with world.program := callToCentimeters 580 }.world.program = .wr 5 580 :: [.command .toCm, .waitIdle, .rd 8] ∧
    { ready with world.program := [.rd 8] }.world.program = .rd 8 :: [] ∧
    { ready with world.program := callStart }.world.program = .command .timerStart :: [.waitIdle] ∧
    { running .trigger .t3 false with world.program := [.waitIdle] }.world.program = .waitIdle :: [] ∧
    { running .trigger .t3 false with world.program := [.waitIdle] }.status.busy = true ∧
    { ready with world.program := [.waitIdle] }.status.busy = false :=
  ⟨rfl, rfl, rfl, rfl, by decide, by decide⟩

theorem witness_EnvironmentOnlyMovesCountersAndEcho :
    { ready with ext.tmrRun := true }.ext.tmrRun = true ∧ ready.ext.tmrRun = false := by decide

theorem witness_ConfigurationPredicates :
    ClkOk { ready with regs.clkHz := 1000000 } ∧ ¬ ClkOk { ready with regs.clkHz := 999999 } ∧
    ToOk { ready with regs.timeoutUs := 0xFFFFFFFF } ∧
    ¬ ToOk { ready with regs.clkHz := 2000000, regs.timeoutUs := 0x80000000 } := by decide

theorem witness_ValidationOfEveryCommand :
    (running .init .v false).seq.uPC = .v ∧ CfgOk (running .init .v false) ∧ ¬ TickOk { ready with regs.tickHz := 0 } := by
  decide

/-- T3 on both sides of its bound N = 10, and the other labels. -/
theorem witness_TriggerPulseSteps :
    (running .trigger .t1 false).seq.uPC = .t1 ∧ (running .measureUs .t2 true).seq.uPC = .t2 ∧
    ({ running .trigger .t3 false with ext.cyccnt := 10 }.seq.uPC = .t3 ∧
      { running .trigger .t3 false with ext.cyccnt := 10 }.seq.n.toNat
        ≤ { running .trigger .t3 false with ext.cyccnt := 10 }.ext.cyccnt.toNat) ∧
    { running .trigger .t3 false with ext.cyccnt := 9 }.ext.cyccnt.toNat
      < { running .trigger .t3 false with ext.cyccnt := 9 }.seq.n.toNat ∧
    (running .trigger .t4 false).seq.uPC = .t4 := by decide

/-- W2 with the line at its level and not, W3 on both sides of its bound TO_CYC = 4. -/
theorem witness_EchoWaitSteps :
    (running .measureUs .w1 true).seq.uPC = .w1 ∧ (running .measureUs .w2 true).seq.uPC = .w2 ∧
    (running .measureUs .w2 true).ext.echoLine = false ∧ (running .measureUs .w2 true).ext.echoLine ≠ true ∧
    (running .measureUs .w3 true).seq.uPC = .w3 ∧
    { running .measureUs .w3 true with ext.cyccnt := 4 }.seq.toCyc.toNat
      ≤ ({ running .measureUs .w3 true with ext.cyccnt := 4 }.ext.cyccnt
          - { running .measureUs .w3 true with ext.cyccnt := 4 }.seq.c0).toNat ∧
    ({ running .measureUs .w3 true with ext.cyccnt := 3 }.ext.cyccnt
        - { running .measureUs .w3 true with ext.cyccnt := 3 }.seq.c0).toNat
      < { running .measureUs .w3 true with ext.cyccnt := 3 }.seq.toCyc.toNat := by decide

theorem witness_PulseTimerSteps :
    (running .timerStart .s1 false).seq.uPC = .s1 ∧ (running .timerStart .s2 false).seq.uPC = .s2 ∧
    (running .timerStopRead .p1 false).seq.uPC = .p1 ∧
    { running .measureCm .p2 false with ext.tmrCnt := 580 }.seq.uPC = .p2 ∧
    (580 : Word) = { running .measureCm .p2 false with ext.tmrCnt := 580 }.ext.tmrCnt.setWidth 32 ∧
    (580 : Word) = toUs { running .measureCm .p2 false with ext.tmrCnt := 580 }.regs.tickHz 580 := by decide

theorem witness_FallingTimeoutStopsTheTimer : (running .measureUs .x1 false).seq.uPC = .x1 := by decide

theorem witness_ConversionStep : (running .toCm .c1 false).seq.uPC = .c1 := by decide

theorem witness_NoMicroStepOffTheProgram :
    (running .toCm .t1 false).seq.uPC ∉ microProgram .toCm ∧ (running .toCm .c1 false).seq.uPC ∈ microProgram .toCm := by
  decide

theorem witness_NoCommandWritesItsInputs : ∃ t, exec .measureCm (running .measureCm .p2 false) = .next t := ⟨_, rfl⟩

theorem witness_EachCommandChangesOnlyItsOwn :
    (∃ t, exec .init (running .init .v false) = .next t) ∧ (∃ t, exec .trigger (running .trigger .t2 false) = .next t) ∧
    (∃ t, exec (.waitEdge true) (running (.waitEdge true) .w2 true) = .next t) ∧
    (∃ t, exec .timerStart (running .timerStart .s1 false) = .next t) ∧
    (∃ t, exec .timerStopRead (running .timerStopRead .p2 false) = .next t) ∧
    (∃ t, exec .toCm (running .toCm .c1 false) = .next t) ∧
    (∃ t, exec .measureUs (running .measureUs .s2 true) = .next t) :=
  ⟨⟨_, rfl⟩, ⟨_, rfl⟩, ⟨_, rfl⟩, ⟨_, rfl⟩, ⟨_, rfl⟩, ⟨_, rfl⟩, ⟨_, rfl⟩⟩

/-- A CORE step that goes on, one that ends in an error and one that ends well. -/
theorem witness_ResultsArePublishedAtFinish :
    (running .trigger .t2 false).status.busy = true ∧
    (∃ t, perform .core (running .trigger .t2 false) = .next t ∧ t.status.busy = true) ∧
    (∃ t, perform .core (running .measureUs .x1 false) = .next t ∧ t.status.err ≠ .noError) ∧
    (∃ t, perform .core (running .measureCm .p2 false) = .next t ∧ t.status.busy = false) :=
  ⟨by decide, ⟨_, rfl, by decide⟩, ⟨_, rfl, by decide⟩, ⟨_, rfl, by decide⟩⟩

theorem witness_StepPerformsTheNextAction :
    { ready with world.script := [.env (.cyc 1), .core] }.world.script = .env (.cyc 1) :: [.core] ∧
    ready.world.script = [] := ⟨rfl, rfl⟩

theorem witness_StepRunsTheDecodedCommand :
    decode 0x00000103 = .ok (.waitEdge true) ∧
    { running (.waitEdge true) .w2 true with world.script := [.core] }.world.script = .core :: [] ∧
    { running (.waitEdge true) .w2 true with world.script := [.core] }.status.busy = true ∧
    { running (.waitEdge true) .w2 true with world.script := [.core] }.seq.op = (0x00000103 : Word).extractLsb' 0 8 ∧
    { running (.waitEdge true) .w2 true with world.script := [.core] }.seq.lvl = (0x00000103 : Word).getLsbD 8 ∧
    decodeTableWord 32 0x00000103 = some (.waitEdge true) := by decide

theorem witness_EveryStepKeepsTheInvariant :
    BlockInv { running .measureUs .w3 true with world.script := [.core] } ∧
    ∃ t, step { running .measureUs .w3 true with world.script := [.core] } = .next t :=
  ⟨blockInv_of_running .measureUs (by decide), _, rfl⟩

theorem witness_OnlyBadBusAccessesStopTheMachine :
    BlockInv { ready with world.script := [.host (.memRead 0 2)] } ∧
    step { ready with world.script := [.host (.memRead 0 2)] } = .refused .busAccessNotAdmitted ∧
    BlockInv (running .trigger .t3 false) :=
  ⟨blockInv_of_idle (by decide), rfl, blockInv_of_running .trigger (by decide)⟩

theorem witness_OnlyResetClearsFault :
    (∃ t, step { ready with status.fault := true, world.script := [.core] } = .next t) ∧
    { ready with status.fault := true, world.script := [.core] }.status.fault = true ∧
    (∃ t, step { ready with status.fault := true, world.script := [.reset] } = .next t ∧ t.status.fault = false) :=
  ⟨⟨_, rfl⟩, by decide, ⟨_, rfl, by decide⟩⟩

theorem witness_InitOkRisesOnlyByInit :
    ∃ t, step { running .init .v false with world.script := [.core] } = .next t ∧
      { running .init .v false with world.script := [.core] }.status.initOk = false ∧ t.status.initOk = true :=
  ⟨_, rfl, by decide, by decide⟩

theorem witness_LatchedLimitsAreExact :
    ClkOk { ready with regs.clkHz := 0xFFFFFFFF } ∧ ToOk { ready with regs.timeoutUs := 0xFFFFFFFF } := by decide

theorem witness_TicksScaleToMicroseconds : (1 : Word) ≠ 0 ∧ 1000000 ≤ (1000000 : Word).toNat := by decide

theorem finite_has_value {p : Word} (h : expField p ≠ 255) : ∃ v, binary32Value p = some v := by
  unfold binary32Value
  rw [if_neg h]
  dsimp only
  by_cases h0 : expField p = 0
  · rw [if_pos h0]; exact ⟨_, rfl⟩
  · rw [if_neg h0]; exact ⟨_, rfl⟩

theorem witness_DistanceIsTheNearestBinary32 : ∃ u, binary32Value 0x41200000 = some u := finite_has_value (by decide)

theorem witness_DistanceIsMonotone : ∃ u v, (580 : Word).toNat ≤ (5800 : Word).toNat ∧
    binary32Value (toCmBits 580) = some u ∧ binary32Value (toCmBits 5800) = some v := by
  obtain ⟨u, hu⟩ := finite_has_value (p := toCmBits 580) (by decide)
  obtain ⟨v, hv⟩ := finite_has_value (p := toCmBits 5800) (by decide)
  exact ⟨u, v, by decide, hu, hv⟩

theorem witness_SinglePrecisionAgreesUpToItsLimit : (16777216 : Word).toNat ≤ 2 ^ 24 := by decide

theorem witness_InitRunsInOneStep :
    ready.status.busy = false ∧ CfgOk ready ∧ fresh.status.busy = false ∧ ¬ CfgOk fresh := by decide

theorem witness_ToCmRunsInTwoSteps : fresh.status.busy = false := by decide

/-- With the timer stopped and with it running. -/
theorem witness_TimerCountsFromStartToStop :
    fresh.status.busy = false ∧ fresh.regs.tickHz ≠ 0 ∧
    (9 : Nat) = (([EnvStep.tmr 7] ++ [EnvStep.tmr 1, EnvStep.cyc 3] ++ [EnvStep.tmr 1]).map (fun e => tmrAdvance (.env e))).sum
      + (if fresh.ext.tmrRun then ([EnvStep.tmr 5].map (fun e => tmrAdvance (.env e))).sum else 0) ∧
    (5 : Nat) = ((([] : List EnvStep) ++ [] ++ []).map (fun e => tmrAdvance (.env e))).sum
      + (if { fresh with ext.tmrRun := true }.ext.tmrRun then ([EnvStep.tmr 5].map (fun e => tmrAdvance (.env e))).sum
          else 0) := by decide

theorem witness_TriggerTakesNPlusFourSteps :
    ready.status.busy = false ∧ (10 : Nat) = ready.regs.clkHz.toNat / 1000000 * 10 ∧ 1 ≤ (10 : Nat) := by decide

/-- Both the bound 0 and the bound 4; the line is at the other level. -/
theorem witness_WaitTimesOutOnTheStatedStep :
    ready.status.busy = false ∧ ToOk ready ∧ (4 : Nat) = ready.regs.timeoutUs.toNat * (ready.regs.clkHz.toNat / 1000000) ∧
    ready.ext.echoLine ≠ true ∧ (6 : Nat) = 2 + 2 * max 1 ((4 + 1) / 2) ∧
    ToOk { ready with regs.timeoutUs := 0 } ∧ (4 : Nat) = 2 + 2 * max 1 ((0 + 1) / 2) := by decide

theorem witness_WaitIsLevelSensitive : ready.status.busy = false ∧ ToOk ready ∧ ready.ext.echoLine = false := by decide

theorem witness_MeasureWithoutEchoTimesOut :
    ready.status.busy = false ∧ CfgOk ready ∧ (10 : Nat) = ready.regs.clkHz.toNat / 1000000 * 10 ∧
    (4 : Nat) = ready.regs.timeoutUs.toNat * (ready.regs.clkHz.toNat / 1000000) ∧ (4 : Nat) < 2 ^ 32 - 1 ∧
    ready.ext.echoLine = false ∧ (19 : Nat) = 5 + 10 + 2 * max 1 ((4 + 1) / 2) := by decide

theorem witness_StoppedCounterHangs :
    (BlockInv (running .trigger .t2 false) ∧ (running .trigger .t2 false).seq.uPC = .t2) ∧
    (BlockInv (running .measureUs .w2 true) ∧ (running .measureUs .w2 true).seq.uPC = .w2 ∧
      (running .measureUs .w2 true).ext.echoLine ≠ (running .measureUs .w2 true).seq.lvl ∧
      ((running .measureUs .w2 true).ext.cyccnt - (running .measureUs .w2 true).seq.c0).toNat
        < (running .measureUs .w2 true).seq.toCyc.toNat) :=
  ⟨⟨blockInv_of_running .trigger (by decide), by decide⟩,
   ⟨blockInv_of_running .measureUs (by decide), by decide, by decide, by decide⟩⟩

theorem staysIn_nil {P : State → Prop} {s : State} (h : P s) : StaysIn P [] s := h

theorem witness_PulseCountsAtLeastN :
    ∃ s1 t u, BlockInv (running .trigger .t2 false) ∧ (running .trigger .t2 false).seq.uPC = .t2 ∧
      perform .core (running .trigger .t2 false) = .next s1 ∧
      StaysIn (fun x => x.seq.uPC = .t3) [.env (.cyc 4), .core, .env (.cyc 6)] s1 ∧
      runActions [.env (.cyc 4), .core, .env (.cyc 6)] s1 = .next t ∧
      perform .core t = .next u ∧ u.seq.uPC = .t4 :=
  ⟨_, _, _, blockInv_of_running .trigger (by decide), by decide, rfl,
    ⟨by decide, _, rfl, by decide, _, rfl, by decide, _, rfl, staysIn_nil (by decide)⟩, rfl, rfl, by decide⟩

theorem witness_TimedOutWaitHasWaitedItsBound :
    ∃ s1 t u, BlockInv (running .measureUs .w1 false) ∧ (running .measureUs .w1 false).seq.uPC = .w1 ∧
      perform .core { running .measureUs .w1 false with ext.echoLine := true } = .next s1 ∧
      BlockInv { running .measureUs .w1 false with ext.echoLine := true } ∧
      StaysIn (fun x => x.seq.uPC ∈ [Label.w2, .w3]) [.env (.cyc 4), .core] s1 ∧
      runActions [.env (.cyc 4), .core] s1 = .next t ∧ t.seq.uPC = .w3 ∧
      perform .core t = .next u ∧ u.seq.uPC ∉ [Label.w2, .w3] :=
  ⟨_, _, _, blockInv_of_running .measureUs (by decide), by decide, rfl, blockInv_of_running .measureUs (by decide),
    ⟨by decide, _, rfl, by decide, _, rfl, staysIn_nil (by decide)⟩, rfl, by decide, rfl, by decide⟩

/-- A timer that was running already and ticked three times between S1 and S2, then 580 times up to P1. -/
theorem witness_MeasuredTicksAreTheTimerAdvances :
    ∃ s s1 t u z, s = { running .measureCm .s2 true with ext.tmrCnt := 3, ext.tmrRun := true } ∧
      BlockInv s ∧ runningCommand s = some .measureCm ∧ s.seq.uPC = .s2 ∧
      583 = s.ext.tmrCnt.toNat + ([AgentAction.core, .env (.tmr 580), .core].map tmrAdvance).sum ∧
      perform .core s = .next s1 ∧
      StaysIn (fun x => x.seq.uPC ∈ [Label.w1, .w2, .w3, .p1]) [.core, .env (.tmr 580), .core] s1 ∧
      runActions [.core, .env (.tmr 580), .core] s1 = .next t ∧ t.seq.uPC = .p1 ∧ perform .core t = .next u ∧
      StaysIn (fun x => x.seq.uPC = .p2) [] u ∧ runActions [] u = .next u ∧ perform .core u = .next z :=
  ⟨_, _, _, _, _, rfl, blockInv_of_running .measureCm (by decide), by decide, by decide, by decide, rfl,
    ⟨by decide, _, rfl, by decide, _, rfl, by decide, _, rfl, staysIn_nil (by decide)⟩, rfl, by decide, rfl,
    staysIn_nil (by decide), rfl, rfl⟩

/-- Two idle states that differ in what an earlier command left. -/
theorem witness_OutcomeIndependentOfEarlierCommands :
    ∃ t, BlockInv ready ∧ BlockInv { ready with regs.resultCm := 7, regs.resultUs := 9, status.state := .complete } ∧
      decode 0x00000006 = .ok .toCm ∧ (∀ x ∈ [AgentAction.core, .env (.cyc 1), .core], isCoreOrEnv x = true) ∧
      runActions (.host (.regWrite 0 0x00000006) :: [.core, .env (.cyc 1), .core]) ready = .next t :=
  ⟨_, blockInv_of_idle (by decide), blockInv_of_idle (by decide), by decide, by decide, rfl⟩

/-! ### One infinite run for the statements about fairness and about seconds

MEASURE_US issued at step 0 on a 1 MHz block with TIMEOUT_US = 4, no echo; ENV advances the counter by 10 at every odd
step, CORE steps at every even one. The command times out at step 16. -/

/-- The actions of the run. -/
def runAction (n : Nat) : AgentAction :=
  if n = 0 then .host (.regWrite 0 0x00000007) else if n % 2 = 1 then .env (.cyc 10) else .core

/-- The label before step `n`. -/
def runLabel (n : Nat) : Label :=
  if n = 0 then .bot else if n < 3 then .v else if n < 5 then .t1 else if n < 7 then .t2 else if n < 9 then .t3
  else if n < 11 then .t4 else if n < 13 then .w1 else if n < 15 then .w2 else if n < 17 then .w3 else .bot

/-- The phase before step `n`. -/
def runPhase (n : Nat) : Phase :=
  if n < 3 then .idle else if n < 11 then .triggering else if n < 17 then .awaitingRisingEdge else .error

/-- The cycle counter before step `n`; T2 is step 6. -/
def runCount (n : Nat) : Nat := if n < 7 then 10 * (n / 2) else 10 * (n / 2 - 3)

/-- The state before step `n`. -/
def runState (n : Nat) : State :=
  { ready with
    regs.cmd := if n = 0 then 0 else 7
    regs.pinsTrig := decide (5 ≤ n ∧ n < 11)
    seq.uPC := runLabel n
    seq.op := if n = 0 then 0 else 7
    seq.lvl := decide (3 ≤ n)
    seq.n := if n < 3 then 0 else 10
    seq.toCyc := if n < 3 then 0 else 4
    seq.c0 := if n < 13 then 0 else 30
    status.busy := decide (1 ≤ n ∧ n < 17)
    status.state := runPhase n
    status.err := if n < 17 then .noError else .timeout
    status.lastOp := if n < 17 then 0 else 7
    ext.trigLine := decide (5 ≤ n ∧ n < 11)
    ext.cyccnt := BitVec.ofNat 32 (runCount n) }

theorem runState_late {n : Nat} (h : 17 ≤ n) :
    runState n = { runState 17 with ext.cyccnt := BitVec.ofNat 32 (runCount n) } := by
  have h0 : ¬ n = 0 := by omega
  have h3 : ¬ n < 3 := by omega
  have h5 : ¬ n < 5 := by omega
  have h7 : ¬ n < 7 := by omega
  have h9 : ¬ n < 9 := by omega
  have h11 : ¬ n < 11 := by omega
  have h13 : ¬ n < 13 := by omega
  have h15 : ¬ n < 15 := by omega
  have h17 : ¬ n < 17 := by omega
  have h3' : 3 ≤ n := by omega
  simp [runState, runLabel, runPhase, *]

theorem run_isRun : IsRun runAction runState := by
  intro n
  by_cases h : n < 17
  · interval_cases n <;> rfl
  · have h17 : 17 ≤ n := by omega
    rw [runState_late h17, runState_late (by omega : 17 ≤ n + 1)]
    have hn : ¬ n = 0 := by omega
    have h7 : ¬ n < 7 := by omega
    have h6 : ¬ n < 6 := by omega
    by_cases hp : n % 2 = 1
    · have hc : runCount (n + 1) = runCount n + 10 := by
        simp only [runCount, h7, if_false, show ¬ n + 1 < 7 by omega]; omega
      rw [hc, BitVec.ofNat_add]
      simp only [runAction, hn, hp, if_false, if_true]
      rfl
    · have hc : runCount (n + 1) = runCount n := by
        simp only [runCount, h7, if_false, show ¬ n + 1 < 7 by omega]; omega
      rw [hc]
      simp only [runAction, hn, hp, if_false]
      rfl

theorem run_core {n : Nat} : runAction n = .core ↔ n ≠ 0 ∧ n % 2 = 0 := by
  unfold runAction
  split
  · simp_all
  · split
    · simp_all
    · simp; omega

theorem run_busy (n : Nat) : (runState n).status.busy = true ↔ 1 ≤ n ∧ n < 17 := by simp [runState]

theorem run_samples {n : Nat} (h : SamplesCounter runAction runState n) : n = 6 ∨ n = 8 ∨ n = 12 ∨ n = 16 := by
  obtain ⟨core, busy, label⟩ := h
  have hb := (run_busy n).1 busy
  have hc := run_core.1 core
  change runLabel n ∈ _ at label
  obtain ⟨h1, h2⟩ := hb
  interval_cases n <;> first | omega | (revert label; decide)

theorem run_advance (n : Nat) : cycAdvance (runAction n) = if n % 2 = 1 then 10 else 0 := by
  unfold runAction
  split
  · simp_all [cycAdvance]
  · split <;> rfl

theorem run_sum (a b : Nat) (h : a ≤ b) :
    (∑ n ∈ Finset.Ioc a b, cycAdvance (runAction n)) + 10 * ((a + 1) / 2) = 10 * ((b + 1) / 2) := by
  induction b, h using Nat.le_induction with
  | base => simp
  | succ b h ih =>
    rw [Finset.sum_Ioc_succ_top (by omega), run_advance]
    split <;> omega

theorem run_fair : Fair runAction runState where
  core n hb := by
    have := (run_busy n).1 hb
    exact ⟨n + 17, by omega, .inr (by simp [runState])⟩
  cyc n := ⟨2 * n + 1, 10, by omega, by omega, by simp [runAction]⟩
  jumps a b hab ha hb _ := by
    have h1 := run_samples ha
    have h2 := run_samples hb
    have h3 : (∑ n ∈ Finset.Ioo a b, cycAdvance (runAction n)) ≤ ∑ n ∈ Finset.Ioc a b, cycAdvance (runAction n) :=
      Finset.sum_le_sum_of_subset Finset.Ioo_subset_Ioc_self
    have h4 := run_sum a b (by omega)
    have h5 : max (runState b).seq.n.toNat (runState b).seq.toCyc.toNat = 10 := by
      rcases h2 with rfl | rfl | rfl | rfl <;> decide
    rw [h5]
    omega

theorem witness_FairRunsEndEveryCommand :
    IsRun runAction runState ∧ BlockInv (runState 0) ∧ Fair runAction runState ∧ (runState 1).status.busy = true :=
  ⟨run_isRun, blockInv_of_idle (by decide), run_fair, by decide⟩

/-- Step `n` of the run at `10 µs` for each advance of the counter so far: a true 1 MHz clock. -/
noncomputable def runTime (n : Nat) : ℝ := (((n + 1) / 2 : Nat) : ℝ) / 100000

theorem run_floor (n : Nat) : ⌊(1000000 : ℝ) * runTime n⌋ = ((10 * ((n + 1) / 2) : Nat) : ℤ) := by
  have : (1000000 : ℝ) * runTime n = ((10 * ((n + 1) / 2) : Nat) : ℝ) := by
    unfold runTime
    push_cast
    ring
  rw [this, Int.floor_natCast]

theorem run_clocks : IdealClocks 1000000 1000000 runAction runState runTime where
  nonneg n := by unfold runTime; positivity
  mono m n h := by
    unfold runTime
    have : (m + 1) / 2 ≤ (n + 1) / 2 := by omega
    have : (((m + 1) / 2 : Nat) : ℝ) ≤ (((n + 1) / 2 : Nat) : ℝ) := by exact_mod_cast this
    linarith
  cyc a b h := by
    rw [run_floor, run_floor]
    have := run_sum a b h
    omega
  tmr a b h hr := by
    rcases Nat.eq_or_lt_of_le h with rfl | h
    · simp
    · have := hr b h le_rfl
      simp [runState, ready, fresh, quiet] at this

theorem million : ((1000000 : Word).toNat : ℝ) = 1000000 := by
  have h : (1000000 : Word).toNat = 1000000 := by decide
  rw [h]
  norm_num

theorem witness_PulseLastsItsSeconds :
    IsRun runAction runState ∧ IdealClocks 1000000 1000000 runAction runState runTime ∧ BlockInv (runState 4) ∧
    ((runState 4).regs.clkHz.toNat : ℝ) = 1000000 ∧ 4 < 10 ∧ runAction 4 = .core ∧ (runState 4).seq.uPC = .t1 ∧
    runAction 10 = .core ∧ (runState 10).seq.uPC = .t4 ∧
    (∀ n, 4 < n → n ≤ 10 → (runState n).seq.uPC ∈ [Label.t2, .t3, .t4]) := by
  refine ⟨run_isRun, run_clocks, blockInv_of_running .measureUs (by decide), million, by decide,
    by decide, by decide, by decide, by decide, fun n h1 h2 => ?_⟩
  interval_cases n <;> decide

theorem witness_TimedOutWaitLastsItsSeconds :
    IsRun runAction runState ∧ IdealClocks 1000000 1000000 runAction runState runTime ∧ BlockInv (runState 12) ∧
    ((runState 12).regs.clkHz.toNat : ℝ) = 1000000 ∧ 12 < 16 ∧ runAction 12 = .core ∧ (runState 12).seq.uPC = .w1 ∧
    runAction 16 = .core ∧ (runState 16).seq.uPC = .w3 ∧
    (∀ n, 12 < n → n ≤ 16 → (runState n).seq.uPC ∈ [Label.w2, .w3]) ∧
    (runState 16).seq.toCyc.toNat ≤ ((runState 16).ext.cyccnt - (runState 16).seq.c0).toNat ∧
    (runState 12).regs.clkHz.toNat % 1000000 = 0 := by
  refine ⟨run_isRun, run_clocks, blockInv_of_running .measureUs (by decide), million, by decide,
    by decide, by decide, by decide, by decide, fun n h1 h2 => ?_, by decide, by decide⟩
  interval_cases n <;> decide

theorem run_latency : Latency (1 / 100000) runAction runState runTime := by
  intro a b hab busy start core quietBetween
  have hb := (run_busy b).1 (busy b hab le_rfl)
  have hc := run_core.1 core
  have ha : a = 0 ∨ a % 2 = 0 := by
    rcases start with h | h
    · exact .inr (run_core.1 h).2
    · by_contra hc
      have := (run_busy a).2 ⟨by omega, by omega⟩
      rw [h] at this
      cases this
  have hba : b = a + 2 := by
    by_contra hne
    exact quietBetween (a + 2) (by omega) (by omega) (run_core.2 ⟨by omega, by omega⟩)
  subst hba
  unfold runTime
  have : (a + 2 + 1) / 2 = (a + 1) / 2 + 1 := by omega
  rw [this]
  push_cast
  linarith

/-- Of the run's command, the finishing step 16 and the step 8, after which it still runs. -/
theorem witness_MeasureEndsWithinItsSeconds :
    IsRun runAction runState ∧ IdealClocks 1000000 1000000 runAction runState runTime ∧
    Latency (1 / 100000) runAction runState runTime ∧ BlockInv (runState 0) ∧
    RatesTrue 1000000 1000000 (runState 0) ∧ 0 < 16 ∧ (runState 0).status.busy = false ∧
    (∀ c, 0 < c → c ≤ 16 → (runState c).status.busy = true) ∧ (runState 1).seq.op ∈ [(0x07 : Opcode), 0x08] ∧
    runAction 16 = .core ∧ runAction 8 = .core ∧ (4 : ℝ) = (timeoutCycles (runState 0)).toNat ∧
    (10 : ℝ) = (triggerCycles (runState 0)).toNat ∧ (4 : ℝ) + 2 * (1 / 100000) * 1000000 + 1 < 2 ^ 32 := by
  have hn : (triggerCycles (runState 0)).toNat = 10 := by decide
  have hb : (timeoutCycles (runState 0)).toNat = 4 := by decide
  refine ⟨run_isRun, run_clocks, run_latency, blockInv_of_idle (by decide), ?_, by decide, by decide,
    fun c h1 h2 => (run_busy c).2 ⟨h1, by omega⟩, by decide, by decide, by decide, by rw [hb]; norm_num,
    by rw [hn]; norm_num, by norm_num⟩
  exact ⟨million, million⟩

end Sys2Proof.Tests
end

section
/-! The step and the script (R10, R69; log 2). -/

namespace Sys2Proof.Machine

/-- With a script, the next action is its head. -/
theorem nextAction_of_script_cons {s : State} {a : AgentAction} {rest : List AgentAction}
    (h : s.world.script = a :: rest) : nextAction s = (a, { s with world.script := rest }) := by
  unfold nextAction
  rw [h]

/-- Without a script, the next action is the free choice's. -/
theorem nextAction_of_script_nil {s : State} (h : s.world.script = []) :
    nextAction s = (Config.freeAction s.world.draws, { s with world.draws := s.world.draws + 1 }) := by
  unfold nextAction
  rw [h]

/-- A step performs whatever `nextAction` answers, on the state it leaves. -/
theorem step_of_nextAction {s s' : State} {a : AgentAction} (h : nextAction s = (a, s')) :
    step s = perform a s' := by
  obtain ⟨_, hstep, rfl, -⟩ := step_eq_perform s
  rw [hstep, h]

/-- Settles O28, by the two cases of the script. -/
theorem stepPerformsTheNextAction : Obligations.StepPerformsTheNextAction := by
  intro s
  constructor
  case left =>
    intro a rest hscript
    exact step_of_nextAction (nextAction_of_script_cons hscript)
  case right =>
    intro hscript
    exact step_of_nextAction (nextAction_of_script_nil hscript)

end Sys2Proof.Machine
end

section
/-! What the decoding of a word says of its fields, and of the command its issue starts (R80, R85, R93). -/

namespace Sys2Proof.Machine

/-- An opcode selects its command, whatever LEVEL is where the command has none (R82, R84). -/
theorem ofOpcode_eq_some {opc : Opcode} {b : Bool} {i : Instr} (hop : opc = opcode i)
    (hb : ∀ level, i = .waitEdge level → b = level) : ofOpcode opc b = some i := by
  subst hop
  cases i with
  | waitEdge level => rw [hb level rfl]; rfl
  | _ => rfl

/-- What a word's decoding says of its fields (R80, R85). -/
theorem fields_of_decode {w : Word} {i : Instr} (h : decode w = .ok i) :
    rsvOf w = 0 ∧ opcOf w = opcode i ∧ levelOf w = levelField i := by
  unfold decode at h
  split at h
  case isFalse => cases h
  case isTrue hrsv =>
    split at h
    case h_1 => cases h
    case h_2 hsome =>
      obtain ⟨hop, hlevel⟩ := ofOpcode_some hsome
      split at h
      case isTrue => cases h
      case isFalse hok => cases h; grind

theorem legalWord_of_decode {w : Word} {i : Instr} (h : decode w = .ok i) : legalWord w = true := by
  obtain ⟨hrsv, hop, hlevel⟩ := fields_of_decode h
  simp only [rsvOf, opcOf, levelOf] at hrsv hop hlevel
  unfold legalWord
  rw [hrsv, hop, hlevel]
  cases i <;> simp [opcode, levelField]

theorem runningCommand_startWord {w : Word} {i : Instr} (h : decode w = .ok i) (s : State) :
    runningCommand (startWord w s) = some i := by
  obtain ⟨-, hop, hlevel⟩ := fields_of_decode h
  exact ofOpcode_eq_some hop fun level hl => by subst hl; exact hlevel

end Sys2Proof.Machine
end

section
/-! One CORE step as a data part and a control part: `effect` is what the micro-step writes to registers, latches and
ports, `verdict` how the command goes on or ends (R94, R95 and the family rules). `exec_eq` ties both to `exec`. -/

namespace Sys2Proof.Machine

/-- How a micro-step leaves the command: it goes on at a label with a STATE and a wait level, or it finishes (R94). -/
inductive Verdict where
  | goesOn (p : Phase) (level : Bool) (l : Label)
  | completes
  | fails (e : ErrKind) (stage : Bool)

/-- What a verdict does to STATUS and the sequencer. -/
def Verdict.act : Verdict → State → State
  | .goesOn p level l, s => s |> setPhase p |> setLvl level |> setPc l
  | .completes, s => finishOk s
  | .fails e stage, s => raise e stage s

/-- The data part of V: the latches every command writes, and INIT_OK for INIT (R95, R180). -/
def effectAtV (i : Instr) (s : State) : State :=
  s |> latchLimits |> setInitOk (if i = .init then decide (CfgOk s) else s.status.initOk)

/-- The data part of P2: the pulse, and the distance for MEASURE_CM (R143, R183). -/
def effectAtP2 (i : Instr) (s : State) : State :=
  s |> publishPulse |> setCm (if i = .measureCm then toCmBits (publishPulse s).regs.resultUs else s.regs.resultCm)

/-- The data part of a micro-step. -/
def effect (i : Instr) (s : State) : State :=
  match s.seq.uPC with
  | .v => effectAtV i s
  | .t1 => pinSet true s
  | .t2 => cycReset s
  | .t4 => pinSet false s
  | .w1 => latchStart (cycRead s) s
  | .w2 => noteEcho (pinRead s) s
  | .s1 => tmrReset s
  | .s2 => tmrStart s
  | .p1 => tmrStop s
  | .p2 => effectAtP2 i s
  | .x1 => tmrStop s
  | .c1 => publishCm s.regs.operandUs s
  | .t3 => s
  | .w3 => s
  | .bot => s

/-- The control part that moves to a label and changes nothing else. -/
def onTo (l : Label) (s : State) : Verdict := .goesOn s.status.state s.seq.lvl l

/-- The control part of V: the command's check, and its first label (R95, R202). -/
def verdictAtV (i : Instr) (s : State) : Verdict :=
  match i with
  | .init => if CfgOk s then .completes else .fails .invalidConfig false
  | .trigger => if ClkOk s then .goesOn .triggering s.seq.lvl .t1 else .fails .invalidConfig false
  | .waitEdge level =>
    if ToOk s then .goesOn (if level then .awaitingRisingEdge else .awaitingFallingEdge) s.seq.lvl .w1
    else .fails .invalidConfig false
  | .timerStart => .goesOn .measuring s.seq.lvl .s1
  | .timerStopRead => if TickOk s then .goesOn .measuring s.seq.lvl .p1 else .fails .invalidConfig false
  | .toCm => onTo .c1 s
  | .measureUs => if CfgOk s then .goesOn .triggering true .t1 else .fails .invalidConfig false
  | .measureCm => if CfgOk s then .goesOn .triggering true .t1 else .fails .invalidConfig false

/-- The control part of W2: the sample decides (R123). -/
def verdictAtW2 (i : Instr) (s : State) : Verdict :=
  if isMeasure i then
    if pinRead s = s.seq.lvl then
      if s.seq.lvl then .goesOn .measuring s.seq.lvl .s1 else onTo .p1 s
    else onTo .w3 s
  else if pinRead s = levelField i then .completes else onTo .w3 s

/-- The control part of W3: the bound decides (R124). -/
def verdictAtW3 (i : Instr) (s : State) : Verdict :=
  if s.seq.toCyc ≤ cycRead s - s.seq.c0 then
    if isMeasure i then
      if s.seq.lvl then .fails .timeout false else onTo .x1 s
    else .fails .timeout (!levelField i)
  else onTo .w2 s

/-- The control part of a micro-step. -/
def verdict (i : Instr) (s : State) : Verdict :=
  match s.seq.uPC with
  | .v => verdictAtV i s
  | .t1 => onTo .t2 s
  | .t2 => onTo .t3 s
  | .t3 => if s.seq.n ≤ cycRead s then onTo .t4 s else onTo .t3 s
  | .t4 => if isMeasure i then .goesOn .awaitingRisingEdge true .w1 else .completes
  | .w1 => onTo .w2 s
  | .w2 => verdictAtW2 i s
  | .w3 => verdictAtW3 i s
  | .s1 => onTo .s2 s
  | .s2 => if isMeasure i then .goesOn .awaitingFallingEdge false .w1 else .completes
  | .p1 => onTo .p2 s
  | .p2 => .completes
  | .x1 => .fails .timeout true
  | .c1 => .completes
  | .bot => onTo .bot s

/-- The state after a micro-step. -/
def microStep (i : Instr) (s : State) : State := (verdict i s).act (effect i s)

/-! ### The branching micro-steps in this form -/

theorem validateInit_eq (s : State) : validateInit s = (verdictAtV .init s).act (effectAtV .init s) := by
  have hv : verdictAtV .init s = if CfgOk s then .completes else .fails .invalidConfig false := rfl
  have he : effectAtV .init s = setInitOk (decide (CfgOk s)) (latchLimits s) := rfl
  rw [hv, he, validateInit]
  split
  next h => rw [decide_eq_true h]; rfl
  next h => rw [decide_eq_false h]; rfl

theorem validateTrigger_eq (s : State) : validateTrigger s = (verdictAtV .trigger s).act (latchLimits s) := by
  unfold validateTrigger verdictAtV
  split <;> rfl

theorem validateWait_eq (level : Bool) (s : State) :
    validateWait level s = (verdictAtV (.waitEdge level) s).act (latchLimits s) := by
  unfold validateWait verdictAtV
  split <;> rfl

theorem validateTimerStopRead_eq (s : State) :
    validateTimerStopRead s = (verdictAtV .timerStopRead s).act (latchLimits s) := by
  unfold validateTimerStopRead verdictAtV
  split <;> rfl

theorem validateMeasure_eq (s : State) : validateMeasure s = (verdictAtV .measureUs s).act (latchLimits s) := by
  unfold validateMeasure verdictAtV
  split <;> rfl

theorem microT3_eq (s : State) :
    microT3 s = (if s.seq.n ≤ cycRead s then onTo .t4 s else onTo .t3 s).act s := by
  unfold microT3
  split <;> rfl

theorem microW2_waitEdge (level : Bool) (s : State) :
    microW2 level finishOk s = (verdictAtW2 (.waitEdge level) s).act (noteEcho (pinRead s) s) := by
  have hv : verdictAtW2 (.waitEdge level) s = if pinRead s = level then .completes else onTo .w3 s := rfl
  rw [hv, microW2]
  split <;> rfl

theorem edgeSeen_eq (s : State) :
    edgeSeen s = (if s.seq.lvl then .goesOn .measuring s.seq.lvl .s1 else onTo .p1 s : Verdict).act s := by
  unfold edgeSeen
  split <;> rfl

theorem microW2_measure (s : State) :
    microW2 s.seq.lvl edgeSeen s = (verdictAtW2 .measureUs s).act (noteEcho (pinRead s) s) := by
  have hv : verdictAtW2 .measureUs s = if pinRead s = s.seq.lvl then
      (if s.seq.lvl then .goesOn .measuring s.seq.lvl .s1 else onTo .p1 s) else onTo .w3 s := rfl
  rw [hv, microW2]
  split
  · exact edgeSeen_eq _
  · rfl

theorem microW3_waitEdge (level : Bool) (s : State) :
    microW3 (raise .timeout (!level)) s = (verdictAtW3 (.waitEdge level) s).act s := by
  unfold microW3 verdictAtW3
  split <;> rfl

theorem edgeLate_eq (s : State) :
    edgeLate s = (if s.seq.lvl then .fails .timeout false else onTo .x1 s : Verdict).act s := by
  unfold edgeLate
  split <;> rfl

theorem microW3_measure (s : State) : microW3 edgeLate s = (verdictAtW3 .measureUs s).act s := by
  unfold microW3 verdictAtW3
  split
  · exact edgeLate_eq s
  · rfl

/-- One CORE step of every command at every label. -/
theorem exec_eq (i : Instr) (s : State) :
    exec i s = if s.seq.uPC ∈ microProgram i then .next (microStep i s) else .fault .strayLabel := by
  obtain ⟨status, regs, ⟨pc, op, lvl, n, toCyc, c0⟩, ext, world⟩ := s
  cases pc
  case v =>
    cases i with
    | init => exact congrArg _ (validateInit_eq _)
    | trigger => exact congrArg _ (validateTrigger_eq _)
    | waitEdge level => exact congrArg _ (validateWait_eq level _)
    | timerStopRead => exact congrArg _ (validateTimerStopRead_eq _)
    | measureUs => exact congrArg _ (validateMeasure_eq _)
    | measureCm => exact congrArg _ (validateMeasure_eq _)
    | _ => rfl
  case t3 =>
    cases i with
    | trigger => exact congrArg _ (microT3_eq _)
    | measureUs => exact congrArg _ (microT3_eq _)
    | measureCm => exact congrArg _ (microT3_eq _)
    | _ => rfl
  case w2 =>
    cases i with
    | waitEdge level => exact congrArg _ (microW2_waitEdge level _)
    | measureUs => exact congrArg _ (microW2_measure _)
    | measureCm => exact congrArg _ (microW2_measure _)
    | _ => rfl
  case w3 =>
    cases i with
    | waitEdge level => exact congrArg _ (microW3_waitEdge level _)
    | measureUs => exact congrArg _ (microW3_measure _)
    | measureCm => exact congrArg _ (microW3_measure _)
    | _ => rfl
  all_goals cases i <;> rfl

theorem exec_eq_next_iff {i : Instr} {s t : State} :
    exec i s = .next t ↔ s.seq.uPC ∈ microProgram i ∧ t = microStep i s := by
  rw [exec_eq]
  split
  next h => simp [h, eq_comm]
  next h => simp [h]

/-- Settles O24: `exec_eq` names the one place where a command stops. -/
theorem noMicroStepOffTheProgram : Obligations.NoMicroStepOffTheProgram := by
  intro i s
  rw [exec_eq]
  split
  next h => simp [h]
  next h => simp [h]

end Sys2Proof.Machine
end

section
/-! What one CORE step of any command leaves in each part of the state, and which labels a command has. -/

namespace Sys2Proof.Machine

/-! ### What the control part leaves alone -/

section
variable (v : Verdict) (s : State)

@[simp] theorem act_regs : (v.act s).regs = s.regs := by cases v <;> rfl
@[simp] theorem act_ext : (v.act s).ext = s.ext := by cases v <;> rfl
@[simp] theorem act_world : (v.act s).world = s.world := by cases v <;> rfl
@[simp] theorem act_fault : (v.act s).status.fault = s.status.fault := by cases v <;> rfl
@[simp] theorem act_initOk : (v.act s).status.initOk = s.status.initOk := by cases v <;> rfl
@[simp] theorem act_op : (v.act s).seq.op = s.seq.op := by cases v <;> rfl
@[simp] theorem act_n : (v.act s).seq.n = s.seq.n := by cases v <;> rfl
@[simp] theorem act_toCyc : (v.act s).seq.toCyc = s.seq.toCyc := by cases v <;> rfl
@[simp] theorem act_c0 : (v.act s).seq.c0 = s.seq.c0 := by cases v <;> rfl

end

/-! ### What a micro-step leaves in each part of the state -/

section
variable (i : Instr) (s : State)

theorem microStep_regs : (microStep i s).regs = { s.regs with
    resultTicks := if s.seq.uPC = .p2 then zextCount s.ext.tmrCnt else s.regs.resultTicks
    resultUs := if s.seq.uPC = .p2 then toUs s.regs.tickHz (zextCount s.ext.tmrCnt) else s.regs.resultUs
    resultCm :=
      if s.seq.uPC = .c1 then toCmBits s.regs.operandUs
      else if s.seq.uPC = .p2 ∧ i = .measureCm then toCmBits (toUs s.regs.tickHz (zextCount s.ext.tmrCnt))
      else s.regs.resultCm
    pinsTrig := if s.seq.uPC = .t1 then true else if s.seq.uPC = .t4 then false else s.regs.pinsTrig
    echoSeen := if s.seq.uPC = .w2 then s.ext.echoLine else s.regs.echoSeen } := by
  cases h : s.seq.uPC
  case p2 => simp [microStep, effect, h, effectAtP2, publishPulse, setPulse, setCm, tmrRead]
  all_goals simp [microStep, effect, h] <;> rfl

theorem microStep_ext : (microStep i s).ext = { s.ext with
    trigLine := if s.seq.uPC = .t1 then true else if s.seq.uPC = .t4 then false else s.ext.trigLine
    cyccnt := if s.seq.uPC = .t2 then 0 else s.ext.cyccnt
    tmrCnt := if s.seq.uPC = .s1 then 0 else s.ext.tmrCnt
    tmrRun := if s.seq.uPC = .s2 then true else if s.seq.uPC ∈ [Label.p1, .x1] then false else s.ext.tmrRun } := by
  cases h : s.seq.uPC <;> simp [microStep, effect, h] <;> rfl

theorem effect_status : (effect i s).status = { s.status with
    initOk := if s.seq.uPC = .v ∧ i = .init then decide (CfgOk s) else s.status.initOk } := by
  cases h : s.seq.uPC
  case v => cases i <;> simp [effect, h, effectAtV] <;> rfl
  all_goals simp [effect, h] <;> rfl

theorem effect_seq : (effect i s).seq = { s.seq with
    n := if s.seq.uPC = .v then triggerCycles s else s.seq.n
    toCyc := if s.seq.uPC = .v then timeoutCycles s else s.seq.toCyc
    c0 := if s.seq.uPC = .w1 then s.ext.cyccnt else s.seq.c0 } := by
  obtain ⟨status, regs, ⟨pc, op, lvl, n, toCyc, c0⟩, ext, world⟩ := s
  cases pc <;> rfl

theorem microStep_world : (microStep i s).world = s.world := by
  cases h : s.seq.uPC <;> simp [microStep, effect, h] <;> rfl

theorem microStep_initOk : (microStep i s).status.initOk =
    if s.seq.uPC = .v ∧ i = .init then decide (CfgOk s) else s.status.initOk := by
  rw [microStep, act_initOk, effect_status]

theorem microStep_fault : (microStep i s).status.fault = s.status.fault := by
  rw [microStep, act_fault, effect_status]

theorem microStep_op : (microStep i s).seq.op = s.seq.op := by
  rw [microStep, act_op, effect_seq]

theorem microStep_n : (microStep i s).seq.n = if s.seq.uPC = .v then triggerCycles s else s.seq.n := by
  rw [microStep, act_n, effect_seq]

theorem microStep_toCyc : (microStep i s).seq.toCyc = if s.seq.uPC = .v then timeoutCycles s else s.seq.toCyc := by
  rw [microStep, act_toCyc, effect_seq]

theorem microStep_c0 : (microStep i s).seq.c0 = if s.seq.uPC = .w1 then s.ext.cyccnt else s.seq.c0 := by
  rw [microStep, act_c0, effect_seq]

end

/-- Settles O25, from the parts of the state after a micro-step. -/
theorem noCommandWritesItsInputs : Obligations.NoCommandWritesItsInputs := by
  intro i s t h
  obtain ⟨-, rfl⟩ := exec_eq_next_iff.1 h
  simp only [microStep_regs, microStep_ext, microStep_world, microStep_fault, microStep_op, and_self]

/-! ### Where a command can go on -/

/-- The moves that keep STATE and the wait level, whatever the command. -/
def quietMoves : List (Label × Label) :=
  [(.t1, .t2), (.t2, .t3), (.t3, .t3), (.t3, .t4), (.w1, .w2), (.w2, .w3), (.w3, .w2), (.s1, .s2), (.p1, .p2),
   (.bot, .bot)]

/-- Every way in which a command goes on: from V, along its micro-program, or, in a MEASURE command, from one of its
phases to the next (R182). -/
inductive Moves (i : Instr) (s : State) : Phase → Bool → Label → Prop
  | validated {p b l} (pc : s.seq.uPC = .v) (first : verdictAtV i s = .goesOn p b l) : Moves i s p b l
  | quiet {l} (move : (s.seq.uPC, l) ∈ quietMoves) : Moves i s s.status.state s.seq.lvl l
  | pulseDone (measure : isMeasure i = true) (pc : s.seq.uPC = .t4) : Moves i s .awaitingRisingEdge true .w1
  | rose (measure : isMeasure i = true) (pc : s.seq.uPC = .w2) (level : s.seq.lvl = true) :
      Moves i s .measuring s.seq.lvl .s1
  | timing (measure : isMeasure i = true) (pc : s.seq.uPC = .s2) : Moves i s .awaitingFallingEdge false .w1
  | fell (measure : isMeasure i = true) (pc : s.seq.uPC = .w2) (level : s.seq.lvl = false) :
      Moves i s s.status.state s.seq.lvl .p1
  | late (measure : isMeasure i = true) (pc : s.seq.uPC = .w3) (level : s.seq.lvl = false) :
      Moves i s s.status.state s.seq.lvl .x1

theorem moves_of_onTo {i : Instr} {s : State} {p : Phase} {b : Bool} {l k : Label} (h : onTo k s = .goesOn p b l)
    (hk : (s.seq.uPC, k) ∈ quietMoves) : Moves i s p b l := by
  cases h
  exact .quiet hk

theorem moves_of_w2 {i : Instr} {s : State} {p : Phase} {b : Bool} {l : Label} (hpc : s.seq.uPC = .w2)
    (h : verdictAtW2 i s = .goesOn p b l) : Moves i s p b l := by
  have hk : (s.seq.uPC, Label.w3) ∈ quietMoves := by rw [hpc]; decide
  unfold verdictAtW2 at h
  split at h
  next hm =>
    split at h
    · split at h
      next hl => cases h; exact .rose hm hpc hl
      next hl => cases h; exact .fell hm hpc (by simpa using hl)
    · exact moves_of_onTo h hk
  next =>
    split at h
    · cases h
    · exact moves_of_onTo h hk

theorem moves_of_w3 {i : Instr} {s : State} {p : Phase} {b : Bool} {l : Label} (hpc : s.seq.uPC = .w3)
    (h : verdictAtW3 i s = .goesOn p b l) : Moves i s p b l := by
  unfold verdictAtW3 at h
  split at h
  · split at h
    next hm =>
      split at h
      next => cases h
      next hl => cases h; exact .late hm hpc (by simpa using hl)
    next => cases h
  · exact moves_of_onTo h (by rw [hpc]; decide)

theorem moves_of_verdict {i : Instr} {s : State} {p : Phase} {b : Bool} {l : Label}
    (h : verdict i s = .goesOn p b l) : Moves i s p b l := by
  cases hpc : s.seq.uPC <;> simp only [verdict, hpc] at h
  case v => exact .validated hpc h
  case w2 => exact moves_of_w2 hpc h
  case w3 => exact moves_of_w3 hpc h
  case t3 => split at h <;> exact moves_of_onTo h (by rw [hpc]; decide)
  case t4 =>
    split at h
    next hm => cases h; exact .pulseDone hm hpc
    next => cases h
  case s2 =>
    split at h
    next hm => cases h; exact .timing hm hpc
    next => cases h
  case p2 | x1 | c1 => cases h
  all_goals exact moves_of_onTo h (by rw [hpc]; decide)

/-! ### Which commands have a label, and which move the wait level -/

theorem pulse_label_command {i : Instr} {l : Label} (h : l ∈ microProgram i) (hl : l ∈ [Label.t1, .t2, .t3, .t4]) :
    i ∈ [Instr.trigger, .measureUs, .measureCm] := by
  revert l
  cases i <;> decide +revert

theorem wait_label_command {i : Instr} {l : Label} (h : l ∈ microProgram i) (hl : l ∈ [Label.w1, .w2, .w3]) :
    i ∈ [Instr.waitEdge true, .waitEdge false, .measureUs, .measureCm] := by
  revert l
  cases i <;> decide +revert

theorem start_label_command {i : Instr} {l : Label} (h : l ∈ microProgram i) (hl : l ∈ [Label.s1, .s2]) :
    i ∈ [Instr.timerStart, .measureUs, .measureCm] := by
  revert l
  cases i <;> decide +revert

theorem stop_label_command {i : Instr} {l : Label} (h : l ∈ microProgram i) (hl : l ∈ [Label.p1, .p2, .x1]) :
    i ∈ [Instr.timerStopRead, .measureUs, .measureCm] := by
  revert l
  cases i <;> decide +revert

theorem c1_label_command {i : Instr} (h : .c1 ∈ microProgram i) : i = .toCm := by
  revert h
  cases i <;> decide +revert

/-- Outside the MEASURE commands the wait level stays what issue latched (R41). -/
theorem moves_keeps_level {i : Instr} {s : State} {p : Phase} {b : Bool} {l : Label} (hi : isMeasure i = false)
    (h : Moves i s p b l) : b = s.seq.lvl := by
  cases h with
  | validated pc first =>
    unfold verdictAtV at first
    cases i <;> grind [isMeasure, onTo]
  | quiet | rose | fell | late => rfl
  | pulseDone measure | timing measure => rw [hi] at measure; cases measure

theorem microStep_lvl {i : Instr} (hi : isMeasure i = false) (s : State) : (microStep i s).seq.lvl = s.seq.lvl := by
  have hlvl : (effect i s).seq.lvl = s.seq.lvl := by rw [effect_seq]
  cases hv : verdict i s with
  | goesOn p b l =>
    rw [microStep, hv]
    exact moves_keeps_level hi (moves_of_verdict hv)
  | completes | fails => rw [microStep, hv]; exact hlvl

/-- Settles O26: each field is written at a few labels, and those belong to the commands named. -/
theorem eachCommandChangesOnlyItsOwn : Obligations.EachCommandChangesOnlyItsOwn := by
  intro i s t h
  obtain ⟨hmem, rfl⟩ := exec_eq_next_iff.1 h
  have hpulse := pulse_label_command hmem
  have hwait := wait_label_command hmem
  have hstart := start_label_command hmem
  have hstop := stop_label_command hmem
  have hc1 : s.seq.uPC = .c1 → i = .toCm := fun hc => c1_label_command (hc ▸ hmem)
  have hmeasure : i ∉ [Instr.measureUs, .measureCm] → isMeasure i = false := by cases i <;> simp [isMeasure]
  simp only [microStep_initOk, microStep_regs, microStep_ext, microStep_n, microStep_toCyc, microStep_c0]
  refine ⟨?initOk, ?cm, ?pulse, ?trig, ?echo, ?tmrRun, ?tmrCnt, fun hi => microStep_lvl (hmeasure hi) s, ?limits⟩
  case limits => intro hv; simp only [if_neg hv, and_self]
  all_goals grind

end Sys2Proof.Machine
end

section
/-! What the actions of a run can do, one constructor for each kind (R10, R69, R240). -/

namespace Sys2Proof.Machine

/-- The two states differ at most in the inputs of the run. -/
structure SameBlock (s t : State) : Prop where
  status : t.status = s.status
  regs : t.regs = s.regs
  seq : t.seq = s.seq
  ext : t.ext = s.ext

/-- Everything an action that answers a next state can do. -/
inductive Turn (s : State) : AgentAction → State → Prop
  | quiet {a t} (same : SameBlock s t) : Turn s a t
  | command {i} (busy : s.status.busy = true) (running : runningCommand s = some i)
      (label : s.seq.uPC ∈ microProgram i) : Turn s .core (microStep i s)
  | environment (e : EnvStep) : Turn s (.env e) (envStep e s)
  | write {a s'} (i : Slot) (v : Word) (same : SameBlock s s') : Turn s a (regWrite i v s')
  | reset : Turn s .reset (resetBlock s)

/-- Everything CORE's turn can do where it does not stop (R30, R40). -/
theorem coreTurn_cases {s t : State} (h : coreTurn s = .next t) :
    (s.status.busy = false ∧ t = s) ∨
    ∃ i, s.status.busy = true ∧ runningCommand s = some i ∧ s.seq.uPC ∈ microProgram i ∧ t = microStep i s := by
  cases hbusy : s.status.busy with
  | false =>
    rw [coreTurn_idle hbusy] at h
    cases h
    exact .inl ⟨rfl, rfl⟩
  | true =>
    cases hi : runningCommand s with
    | none => simp [coreTurn, hbusy, hi] at h
    | some i =>
      rw [coreTurn_busy hbusy hi] at h
      obtain ⟨hlabel, ht⟩ := exec_eq_next_iff.1 h
      exact .inr ⟨i, rfl, rfl, hlabel, ht⟩

theorem turn_of_coreTurn {s t : State} (h : coreTurn s = .next t) : Turn s .core t := by
  obtain ⟨-, rfl⟩ | ⟨i, hbusy, hi, hlabel, rfl⟩ := coreTurn_cases h
  · exact .quiet ⟨rfl, rfl, rfl, rfl⟩
  · exact .command hbusy hi hlabel

theorem turn_of_hostAccess {s t : State} {x : HostAccess} (h : hostAccess x s = .next t) : Turn s (.host x) t := by
  obtain ⟨w, hr⟩ | ⟨i, v, hw⟩ | ⟨hrefused, -⟩ := hostAccess_cases x s
  · cases hr.symm.trans h
    exact .quiet ⟨rfl, rfl, rfl, rfl⟩
  · cases hw.symm.trans h
    exact .write i v ⟨rfl, rfl, rfl, rfl⟩
  · cases hrefused.symm.trans h

theorem turn_of_programTurn (s : State) : Turn s .program (programTurn s) := by
  obtain h | ⟨p, i, v, h⟩ | ⟨p, w, h⟩ := programTurn_cases s <;> rw [h]
  · exact .quiet ⟨rfl, rfl, rfl, rfl⟩
  · exact .write i v ⟨rfl, rfl, rfl, rfl⟩
  · exact .quiet ⟨rfl, rfl, rfl, rfl⟩

theorem turn_of_perform {a : AgentAction} {s t : State} (h : perform a s = .next t) : Turn s a t := by
  cases a with
  | core => exact turn_of_coreTurn h
  | env e => cases h; exact .environment e
  | host x => exact turn_of_hostAccess h
  | program => cases h; exact turn_of_programTurn s
  | reset => cases h; exact .reset

/-- A step is one turn, on a state that differs in the inputs of the run alone. -/
theorem turn_of_step {s t : State} (h : step s = .next t) : ∃ s', SameBlock s s' ∧ Turn s' (nextAction s).1 t := by
  obtain ⟨s', hstep, -, hstatus, hregs, hseq, hext⟩ := step_eq_perform s
  exact ⟨s', ⟨hstatus, hregs, hseq, hext⟩, turn_of_perform (hstep.symm.trans h)⟩

theorem runningCommand_congr {s t : State} (h : SameBlock s t) : runningCommand t = runningCommand s := by
  simp only [runningCommand, h.seq]

end Sys2Proof.Machine
end

section
/-! The invariant: where a running command arrives and how it ends, and that every action keeps it. -/

namespace Sys2Proof.Machine

/-! ### Where a running command goes on -/

theorem configPasses_congr {s t : State} (i : Instr) (hclk : s.regs.clkHz = t.regs.clkHz)
    (htick : s.regs.tickHz = t.regs.tickHz) (hto : s.regs.timeoutUs = t.regs.timeoutUs) :
    ConfigPasses s i ↔ ConfigPasses t i := by
  cases i <;> simp only [ConfigPasses, CfgOk, ToOk, TickOk, ClkOk, cpuUs_congr hclk, htick, hto]

/-- What holds where a running command arrives: the label, STATE and the wait level fit its micro-program, and the
trigger line is high there exactly after T1 and before T4 (R43, R182). -/
structure Arrival (i : Instr) (s : State) (p : Phase) (b : Bool) (l : Label) : Prop where
  label : l ∈ microProgram i
  past_v : l ≠ .v
  checked : s.seq.uPC = .v → ConfigPasses s i
  phase : p = phaseAt i b l
  rising : isMeasure i = true → l ∈ [Label.t1, .t2, .t3, .t4, .s1, .s2] → b = true
  falling : isMeasure i = true → l ∈ [Label.p1, .p2, .x1] → b = false
  high : l ∈ [Label.t2, .t3, .t4] ↔ s.seq.uPC ∈ [Label.t1, .t2, .t3]

theorem configPasses_of_verdictAtV {i : Instr} {s : State} {p : Phase} {b : Bool} {l : Label}
    (h : verdictAtV i s = .goesOn p b l) : ConfigPasses s i := by
  cases i <;> simp only [verdictAtV] at h
  case timerStart | toCm => trivial
  all_goals
    split at h
    next hok => exact hok
    next => cases h

/-- Every command's first label, with the STATE and the wait level there (R95). -/
theorem arrival_of_validated {i : Instr} {s : State} {p : Phase} {b : Bool} {l : Label} (hpc : s.seq.uPC = .v)
    (hphase : s.status.state = .idle) (hlvl : ∀ level, i = .waitEdge level → s.seq.lvl = level)
    (h : verdictAtV i s = .goesOn p b l) : Arrival i s p b l := by
  have hok := configPasses_of_verdictAtV h
  cases i <;> simp only [verdictAtV, onTo] at h
  case init => split at h <;> cases h
  case timerStart | toCm =>
    cases h
    refine ⟨?_, ?_, fun _ => hok, ?_, ?_, ?_, ?_⟩ <;> simp [microProgram, phaseAt, isMeasure, hpc, hphase]
  all_goals
    split at h
    · cases h
      refine ⟨?_, ?_, fun _ => hok, ?_, ?_, ?_, ?_⟩ <;> simp [microProgram, phaseAt, isMeasure, hpc, hlvl]
    · cases h

theorem quietMoves_label {i : Instr} :
    ∀ q ∈ quietMoves, q.1 ∈ microProgram i → q.2 ∈ microProgram i := by
  cases i <;> decide +revert

theorem quietMoves_phase {i : Instr} {b : Bool} : ∀ q ∈ quietMoves, phaseAt i b q.1 = phaseAt i b q.2 := by
  simp [quietMoves, phaseAt]

theorem quietMoves_groups : ∀ q ∈ quietMoves, q.1 ≠ .v ∧ q.2 ≠ .v ∧
    (q.2 ∈ [Label.t1, .t2, .t3, .t4, .s1, .s2] → q.1 ∈ [Label.t1, .t2, .t3, .t4, .s1, .s2]) ∧
    (q.2 ∈ [Label.p1, .p2, .x1] → q.1 ∈ [Label.p1, .p2, .x1]) ∧
    (q.2 ∈ [Label.t2, .t3, .t4] ↔ q.1 ∈ [Label.t1, .t2, .t3]) := by
  decide

theorem arrival_of_quiet {i : Instr} {s : State} {l : Label} (hr : Running i s) (h : (s.seq.uPC, l) ∈ quietMoves) :
    Arrival i s s.status.state s.seq.lvl l := by
  obtain ⟨hlabel, hphase, -, hrising, hfalling⟩ := hr
  obtain ⟨hv, hv', hrise, hfall, hhigh⟩ := quietMoves_groups _ h
  exact {
    label := quietMoves_label _ h hlabel
    past_v := hv'
    checked := fun hpc => absurd hpc hv
    phase := hphase.trans (quietMoves_phase _ h)
    rising := fun hm hl => hrising hm (hrise hl)
    falling := fun hm hl => hfalling hm (hfall hl)
    high := hhigh }

theorem microProgram_of_measure {i : Instr} (h : isMeasure i = true) : microProgram i =
    [.v, .t1, .t2, .t3, .t4, .w1, .w2, .w3, .s1, .s2, .p1, .p2, .x1] := by
  cases i
  case measureUs | measureCm => rfl
  all_goals cases h

theorem arrival_of_moves {i : Instr} {s : State} {p : Phase} {b : Bool} {l : Label} (hi : runningCommand s = some i)
    (hr : Running i s) (h : Moves i s p b l) : Arrival i s p b l := by
  cases h with
  | validated pc first =>
    have hphase : s.status.state = .idle := by rw [hr.phase, pc]; rfl
    exact arrival_of_validated pc hphase (fun level hl => lvl_of_runningCommand (hl ▸ hi)) first
  | quiet move => exact arrival_of_quiet hr move
  | pulseDone measure pc | timing measure pc | rose measure pc level | fell measure pc level | late measure pc level =>
    have hphase := hr.phase
    have hprogram := microProgram_of_measure measure
    constructor <;> simp_all [phaseAt]

/-! ### How a command ends -/

theorem verdict_in_pulse {i : Instr} {s : State} (h : s.seq.uPC ∈ [Label.t1, .t2, .t3]) :
    ∃ l, verdict i s = onTo l s := by
  simp only [List.mem_cons, List.not_mem_nil, or_false] at h
  rcases h with hpc | hpc | hpc <;> simp only [verdict, hpc]
  case inr.inr => split <;> exact ⟨_, rfl⟩
  all_goals exact ⟨_, rfl⟩

theorem verdictAtV_fails {i : Instr} {s : State} {e : ErrKind} {stage : Bool} (h : verdictAtV i s = .fails e stage) :
    e = .invalidConfig ∧ stage = false := by
  cases i <;> simp only [verdictAtV, onTo] at h
  case timerStart | toCm => cases h
  all_goals
    split at h
    · cases h
    · cases h; exact ⟨rfl, rfl⟩

/-- A command fails only by its configuration or by a timeout (R205). -/
theorem verdict_fails {i : Instr} {s : State} {e : ErrKind} {stage : Bool} (h : verdict i s = .fails e stage) :
    e = .invalidConfig ∧ stage = false ∨ e = .timeout := by
  cases hpc : s.seq.uPC <;> simp only [verdict, hpc, onTo, verdictAtW2, verdictAtW3] at h
  case v => exact .inl (verdictAtV_fails h)
  case x1 => cases h; exact .inr rfl
  case w3 => exact .inr (by grind)
  all_goals grind

/-! ### The invariant at rest and while a command runs -/

theorem blockInv_of_rest {s : State} (hbusy : s.status.busy = false) (hpc : s.seq.uPC = .bot)
    (hline : s.ext.trigLine = false) (hpin : s.regs.pinsTrig = s.ext.trigLine)
    (herr : s.status.err ≠ .noError ↔ s.status.state = .error)
    (hstage : s.status.stage = true → s.status.err = .timeout)
    (hphase : s.status.state ∈ [Phase.idle, .complete, .error])
    (hcmd : s.regs.cmd = 0 ∨ legalWord s.regs.cmd = true) : BlockInv s where
  busy_iff := by simp [hbusy, hpc]
  trig_mirrored := hpin
  trig_high_iff := by simp [hline, hpc]
  err_iff := herr
  stage_timeout := hstage
  rest_phase := fun _ => hphase
  cmd_legal := hcmd
  op_of_cmd := by simp [hbusy]
  running := by simp [hbusy]

theorem phaseAt_ne_error (i : Instr) (b : Bool) (l : Label) : phaseAt i b l ≠ .error := by
  cases l <;> cases b <;> cases hm : isMeasure i <;> simp [phaseAt, hm]

theorem bot_not_mem (i : Instr) : Label.bot ∉ microProgram i := by
  cases i <;> decide +revert

theorem blockInv_of_runs {i : Instr} {s : State} (hbusy : s.status.busy = true) (hi : runningCommand s = some i)
    (hr : Running i s) (hpin : s.regs.pinsTrig = s.ext.trigLine)
    (hhigh : s.ext.trigLine = true ↔ s.seq.uPC ∈ [Label.t2, .t3, .t4]) (herr : s.status.err = .noError)
    (hstage : s.status.stage = false) (hcmd : s.regs.cmd = 0 ∨ legalWord s.regs.cmd = true)
    (hop : s.seq.op = opcOf s.regs.cmd) : BlockInv s where
  busy_iff := by simpa [hbusy] using fun hb : s.seq.uPC = .bot => bot_not_mem i (hb ▸ hr.label)
  trig_mirrored := hpin
  trig_high_iff := hhigh
  err_iff := by simp [herr, hr.phase, phaseAt_ne_error]
  stage_timeout := by simp [hstage]
  rest_phase := by simp [hbusy]
  cmd_legal := hcmd
  op_of_cmd := fun _ => hop
  running := fun _ => ⟨i, hi, hr⟩

/-- While a command runs, no error is shown (R25, R26). -/
theorem BlockInv.no_error {s : State} (h : BlockInv s) (hbusy : s.status.busy = true) :
    s.status.err = .noError ∧ s.status.stage = false := by
  obtain ⟨i, -, hr⟩ := h.running hbusy
  have herr : s.status.err = .noError := by
    by_contra hne
    exact phaseAt_ne_error _ _ _ (hr.phase.symm.trans (h.err_iff.1 hne))
  refine ⟨herr, ?_⟩
  by_contra hstage
  have := h.stage_timeout (by simpa using hstage)
  simp [herr] at this

/-! ### A running command's step keeps the invariant -/

section
variable {i : Instr} {s : State}

theorem microStep_pinsTrig (h : s.regs.pinsTrig = s.ext.trigLine) :
    (microStep i s).regs.pinsTrig = (microStep i s).ext.trigLine := by
  rw [microStep_regs, microStep_ext, h]

/-- The trigger line after a micro-step is high exactly where it came from T1, T2 or T3 (R43). -/
theorem microStep_trigLine (h : s.ext.trigLine = true ↔ s.seq.uPC ∈ [Label.t2, .t3, .t4]) :
    (microStep i s).ext.trigLine = true ↔ s.seq.uPC ∈ [Label.t1, .t2, .t3] := by
  rw [microStep_ext]
  cases hpc : s.seq.uPC <;> simp [h, hpc]

/-- A command does not end between T1 and T4, so the trigger line is low where it ends (R43). -/
theorem microStep_trigLine_of_end (h : s.ext.trigLine = true ↔ s.seq.uPC ∈ [Label.t2, .t3, .t4])
    (hend : ∀ l, verdict i s ≠ onTo l s) : (microStep i s).ext.trigLine = false := by
  by_contra hhigh
  obtain ⟨l, hl⟩ := verdict_in_pulse ((microStep_trigLine h).1 (by simpa using hhigh))
  exact hend l hl

theorem microStep_runningCommand (hi : runningCommand s = some i) : runningCommand (microStep i s) = some i := by
  refine ofOpcode_eq_some ?_ fun level hl => ?_
  · rw [microStep_op]; exact (ofOpcode_some hi).1
  · subst hl
    rw [microStep_lvl rfl]; exact lvl_of_runningCommand hi

theorem running_of_arrival {p : Phase} {b : Bool} {l : Label} (hr : Running i s) (ha : Arrival i s p b l)
    (hv : verdict i s = .goesOn p b l) : Running i (microStep i s) := by
  have hpc : (microStep i s).seq.uPC = l := by rw [microStep, hv]; rfl
  have hlvl : (microStep i s).seq.lvl = b := by rw [microStep, hv]; rfl
  have hstate : (microStep i s).status.state = p := by rw [microStep, hv]; rfl
  have hclk : s.regs.clkHz = (microStep i s).regs.clkHz := by rw [microStep_regs]
  have htick : s.regs.tickHz = (microStep i s).regs.tickHz := by rw [microStep_regs]
  have hto : s.regs.timeoutUs = (microStep i s).regs.timeoutUs := by rw [microStep_regs]
  constructor
  case label => rw [hpc]; exact ha.label
  case phase => rw [hstate, hlvl, hpc]; exact ha.phase
  case checked =>
    intro _
    rw [← configPasses_congr i hclk htick hto, ← triggerCycles_congr hclk, ← timeoutCycles_congr hclk hto,
      microStep_n, microStep_toCyc]
    by_cases hv : s.seq.uPC = .v
    · rw [if_pos hv, if_pos hv]; exact ⟨ha.checked hv, rfl, rfl⟩
    · rw [if_neg hv, if_neg hv]; exact hr.checked hv
  case rising => rw [hpc, hlvl]; exact ha.rising
  case falling => rw [hpc, hlvl]; exact ha.falling

theorem microStep_keeps_blockInv (h : BlockInv s) (hbusy : s.status.busy = true) (hi : runningCommand s = some i) :
    BlockInv (microStep i s) := by
  obtain ⟨_, hi', hr⟩ := h.running hbusy
  cases hi.symm.trans hi'
  obtain ⟨herr, hstage⟩ := h.no_error hbusy
  have hpin := microStep_pinsTrig (i := i) h.trig_mirrored
  have hcmd : (microStep i s).regs.cmd = s.regs.cmd := by rw [microStep_regs]
  have hlegal := h.cmd_legal
  rw [← hcmd] at hlegal
  cases hv : verdict i s with
  | goesOn p b l =>
    have ha := arrival_of_moves hi hr (moves_of_verdict hv)
    have hstatus : (microStep i s).status = { (effect i s).status with state := p } := by rw [microStep, hv]; rfl
    have hpc : (microStep i s).seq.uPC = l := by rw [microStep, hv]; rfl
    rw [effect_status] at hstatus
    refine blockInv_of_runs ?_ (microStep_runningCommand hi) (running_of_arrival hr ha hv) hpin ?_ ?_ ?_ hlegal ?_
    · rw [hstatus]; exact hbusy
    · rw [hpc, microStep_trigLine h.trig_high_iff, ha.high]
    · rw [hstatus]; exact herr
    · rw [hstatus]; exact hstage
    · rw [hcmd, microStep_op]; exact h.op_of_cmd hbusy
  | completes =>
    have hlow := microStep_trigLine_of_end (i := i) h.trig_high_iff (by simp [hv, onTo])
    have hend : microStep i s = finishOk (effect i s) := by rw [microStep, hv]; rfl
    apply blockInv_of_rest _ _ hlow hpin _ _ _ hlegal <;> simp [hend]
  | fails e stage =>
    have hlow := microStep_trigLine_of_end (i := i) h.trig_high_iff (by simp [hv, onTo])
    have hend : microStep i s = raise e stage (effect i s) := by rw [microStep, hv]; rfl
    have he := verdict_fails hv
    apply blockInv_of_rest _ _ hlow hpin _ _ _ hlegal <;> simp [hend] <;> grind

end

/-! ### The invariant -/

/-- The invariant reads neither FAULT nor anything of the external state but the trigger line. -/
theorem BlockInv.congr {s t : State} (fault : Bool) (h : BlockInv s)
    (hstatus : t.status = { s.status with fault := fault }) (hregs : t.regs = s.regs)
    (hseq : t.seq = s.seq) (hline : t.ext.trigLine = s.ext.trigLine) : BlockInv t := by
  obtain ⟨status, regs, seq, ext, world⟩ := s
  obtain ⟨status', regs', seq', ext', world'⟩ := t
  cases hstatus
  cases hregs
  cases hseq
  exact {
    busy_iff := h.busy_iff
    trig_mirrored := h.trig_mirrored.trans hline.symm
    trig_high_iff := by rw [hline]; exact h.trig_high_iff
    err_iff := h.err_iff
    stage_timeout := h.stage_timeout
    rest_phase := h.rest_phase
    cmd_legal := h.cmd_legal
    op_of_cmd := h.op_of_cmd
    running := fun hbusy => by
      obtain ⟨i, hi, hr⟩ := h.running hbusy
      exact ⟨i, hi, hr.label, hr.phase, hr.checked, hr.rising, hr.falling⟩ }

theorem BlockInv.of_sameBlock {s t : State} (h : BlockInv s) (same : SameBlock s t) : BlockInv t :=
  h.congr s.status.fault same.status same.regs same.seq (by rw [same.ext])

/-- With no command running uPC is `⊥` and the trigger line is low (R30, R43). -/
theorem BlockInv.at_rest {s : State} (h : BlockInv s) (hbusy : s.status.busy = false) :
    s.seq.uPC = .bot ∧ s.ext.trigLine = false := by
  have hpc : s.seq.uPC = .bot := by
    by_contra hne
    have := h.busy_iff.2 hne
    simp [hbusy] at this
  refine ⟨hpc, ?_⟩
  by_contra hhigh
  have := h.trig_high_iff.1 (by simpa using hhigh)
  simp [hpc] at this

theorem v_mem_microProgram (i : Instr) : Label.v ∈ microProgram i := by
  cases i <;> decide +revert

theorem issue_keeps_blockInv {s : State} (w : Word) (h : BlockInv s) (hbusy : s.status.busy = false) :
    BlockInv (issue w s) := by
  obtain ⟨hpc, hline⟩ := h.at_rest hbusy
  cases hw : decode w with
  | ok i =>
    rw [issue_legal hw]
    refine blockInv_of_runs rfl (runningCommand_startWord hw s) ?_ h.trig_mirrored ?_ rfl rfl
      (.inr (legalWord_of_decode hw)) rfl
    · exact ⟨v_mem_microProgram i, rfl, fun hv => absurd rfl hv, by simp, by simp⟩
    · simp [hline]
  | error e =>
    rw [issue_illegal (by simp [hw])]
    exact blockInv_of_rest (s := rejectWord w s) hbusy hpc hline h.trig_mirrored (by simp) (by simp) (by simp)
      h.cmd_legal

theorem regWrite_keeps_blockInv {s : State} (i : Slot) (v : Word) (h : BlockInv s) : BlockInv (regWrite i v s) := by
  obtain heq | ⟨-, heq⟩ | ⟨hbusy, heq⟩ := regWrite_cases i v s
  · rw [heq]; exact h
  · rw [heq]; exact h.congr true rfl rfl rfl rfl
  · obtain ⟨hpc, hline⟩ := h.at_rest hbusy
    obtain heq | heq | heq | heq | heq := heq <;> rw [heq]
    · exact issue_keeps_blockInv v h hbusy
    all_goals
      exact blockInv_of_rest hbusy hpc hline h.trig_mirrored h.err_iff h.stage_timeout (h.rest_phase hbusy)
        h.cmd_legal

theorem blockInv_of_reset_values {s : State} (hstatus : s.status = Status.reset) (hregs : s.regs = RegFile.reset)
    (hseq : s.seq = Sequencer.reset) (hline : s.ext.trigLine = false) : BlockInv s := by
  apply blockInv_of_rest <;> simp [hstatus, hregs, hseq, hline, Status.reset, RegFile.reset, Sequencer.reset]

theorem turn_keeps_blockInv {a : AgentAction} {s t : State} (h : BlockInv s) (ht : Turn s a t) : BlockInv t := by
  cases ht with
  | quiet same => exact h.of_sameBlock same
  | command busy running label => exact microStep_keeps_blockInv h busy running
  | environment e =>
    exact h.congr s.status.fault (envStep_status e s) (envStep_regs e s) (envStep_seq e s) (envStep_trigLine e s)
  | write i v same => exact regWrite_keeps_blockInv i v (h.of_sameBlock same)
  | reset => exact blockInv_of_reset_values rfl rfl rfl rfl

/-- Settles O31, by the kinds of turn. -/
theorem everyStepKeepsTheInvariant : Obligations.EveryStepKeepsTheInvariant := by
  intro s t h hstep
  obtain ⟨s', same, ht⟩ := turn_of_step hstep
  exact turn_keeps_blockInv (h.of_sameBlock same) ht

/-- Settles O30: at reset no command runs. -/
theorem invariantAtReset : Obligations.InvariantAtReset :=
  blockInv_of_reset_values rfl rfl rfl rfl

/-! ### Stops -/

/-- The only action that stops in a state of the invariant is a bus access that is not admitted. -/
theorem perform_of_blockInv {s : State} (a : AgentAction) (h : BlockInv s) :
    (∃ t, perform a s = .next t) ∨ (perform a s = .refused .busAccessNotAdmitted ∧ a.wf = false) := by
  cases a with
  | core =>
    cases hbusy : s.status.busy with
    | false => exact .inl ⟨s, coreTurn_idle hbusy⟩
    | true =>
      obtain ⟨i, hi, hr⟩ := h.running hbusy
      exact .inl ⟨_, (coreTurn_busy hbusy hi).trans (exec_eq_next_iff.2 ⟨hr.label, rfl⟩)⟩
  | env e => exact .inl ⟨_, rfl⟩
  | host x =>
    obtain ⟨w, hread⟩ | ⟨i, v, hwrite⟩ | hrefused := hostAccess_cases x s
    · exact .inl ⟨_, hread⟩
    · exact .inl ⟨_, hwrite⟩
    · exact .inr hrefused
  | program => exact .inl ⟨_, rfl⟩
  | reset => exact .inl ⟨_, rfl⟩

/-- Settles O32: a running command is at a label of its micro-program, and there `exec` goes on. -/
theorem onlyBadBusAccessesStopTheMachine : Obligations.OnlyBadBusAccessesStopTheMachine := by
  intro s h
  obtain ⟨s', hstep, -, hstatus, hregs, hseq, hext⟩ := step_eq_perform s
  rw [hstep]
  exact perform_of_blockInv _ (h.of_sameBlock ⟨hstatus, hregs, hseq, hext⟩)

end Sys2Proof.Machine
end

section
/-! FAULT and INIT_OK along a step (R27, R28). -/

namespace Sys2Proof.Machine

theorem issue_status (w : Word) (s : State) :
    (issue w s).status.fault = s.status.fault ∧ (issue w s).status.initOk = s.status.initOk := by
  unfold issue
  split <;> exact ⟨rfl, rfl⟩

theorem regWrite_keeps_fault {s : State} (i : Slot) (v : Word) (h : s.status.fault = true) :
    (regWrite i v s).status.fault = true := by
  obtain heq | ⟨-, heq⟩ | ⟨-, heq | heq | heq | heq | heq⟩ := regWrite_cases i v s <;> rw [heq]
  case inr.inl => rfl
  case inr.inr.inl => rw [(issue_status v s).1, h]
  all_goals exact h

theorem regWrite_keeps_initOk_low {s : State} (i : Slot) (v : Word) (h : s.status.initOk = false) :
    (regWrite i v s).status.initOk = false := by
  obtain heq | ⟨-, heq⟩ | ⟨-, heq | heq | heq | heq | heq⟩ := regWrite_cases i v s <;> rw [heq]
  case inr.inr.inl => rw [(issue_status v s).2, h]
  all_goals exact h

/-- Settles O33, by the kinds of turn. -/
theorem onlyResetClearsFault : Obligations.OnlyResetClearsFault := by
  intro s t hstep hfault
  obtain ⟨s', same, ht⟩ := turn_of_step hstep
  rw [← same.status] at hfault
  generalize (nextAction s).1 = a at ht
  cases ht with
  | quiet same' => exact .inl (by rw [same'.status, hfault])
  | command => exact .inl (by rw [microStep_fault, hfault])
  | environment e => exact .inl (by rw [envStep_status, hfault])
  | write i v same' => exact .inl (regWrite_keeps_fault i v (by rw [same'.status, hfault]))
  | reset => exact .inr rfl

/-- Settles O34: of all turns only a micro-step of INIT at V writes 1 to INIT_OK. -/
theorem initOkRisesOnlyByInit : Obligations.InitOkRisesOnlyByInit := by
  intro s t hstep hlow hhigh
  obtain ⟨s', same, ht⟩ := turn_of_step hstep
  rw [← same.status] at hlow
  generalize (nextAction s).1 = a at ht ⊢
  cases ht with
  | quiet same' => rw [same'.status, hlow] at hhigh; cases hhigh
  | command busy running label =>
    rw [microStep_initOk] at hhigh
    split at hhigh
    next hi =>
      obtain ⟨-, rfl⟩ := hi
      refine ⟨rfl, (runningCommand_congr same).symm.trans running, same.status ▸ busy, ?_⟩
      have hcfg : ConfigPasses s' .init ↔ ConfigPasses s .init := by apply configPasses_congr <;> rw [same.regs]
      exact hcfg.1 (of_decide_eq_true (p := CfgOk s') hhigh)
    next => rw [hlow] at hhigh; cases hhigh
  | environment e => rw [envStep_status, hlow] at hhigh; cases hhigh
  | write i v same' =>
    rw [regWrite_keeps_initOk_low i v (by rw [same'.status, hlow])] at hhigh
    cases hhigh
  | reset => cases hhigh

end Sys2Proof.Machine
end

section
/-! The words the host reads, bit for bit (R21, R23, R38, R39). -/

namespace Sys2Proof.Machine

theorem getLsbD_of_extractLsb' {m k : Nat} {x : BitVec m} {b : Bool} (h : x.extractLsb' k 1 = BitVec.ofBool b) :
    x.getLsbD k = b := by
  rw [BitVec.getLsbD_eq_extractLsb', h]
  cases b <;> rfl

section
variable (t : Status)

theorem statusWord_busy : (statusWord t).getLsbD 0 = t.busy :=
  getLsbD_of_extractLsb' BitVec.extractLsb'_append_eq_right

theorem statusWord_state : (statusWord t).extractLsb' 1 3 = phaseCode t.state := by
  refine (BitVec.extractLsb'_append_eq_of_le (by decide)).trans ?_
  exact BitVec.extractLsb'_append_eq_right

theorem statusWord_err : (statusWord t).extractLsb' 4 2 = errCode t.err := by
  iterate 2 refine (BitVec.extractLsb'_append_eq_of_le (by decide)).trans ?_
  exact BitVec.extractLsb'_append_eq_right

theorem statusWord_stage : (statusWord t).getLsbD 6 = t.stage := by
  apply getLsbD_of_extractLsb'
  iterate 3 refine (BitVec.extractLsb'_append_eq_of_le (by decide)).trans ?_
  exact BitVec.extractLsb'_append_eq_right

theorem statusWord_initOk : (statusWord t).getLsbD 7 = t.initOk := by
  apply getLsbD_of_extractLsb'
  iterate 4 refine (BitVec.extractLsb'_append_eq_of_le (by decide)).trans ?_
  exact BitVec.extractLsb'_append_eq_right

theorem statusWord_fault : (statusWord t).getLsbD 8 = t.fault := by
  apply getLsbD_of_extractLsb'
  iterate 5 refine (BitVec.extractLsb'_append_eq_of_le (by decide)).trans ?_
  exact BitVec.extractLsb'_append_eq_right

theorem statusWord_reserved_low : (statusWord t).extractLsb' 9 7 = 0 := by
  iterate 6 refine (BitVec.extractLsb'_append_eq_of_le (by decide)).trans ?_
  exact BitVec.extractLsb'_append_eq_right

theorem statusWord_lastOp : (statusWord t).extractLsb' 16 8 = t.lastOp := by
  iterate 7 refine (BitVec.extractLsb'_append_eq_of_le (by decide)).trans ?_
  exact BitVec.extractLsb'_append_eq_right

theorem statusWord_reserved_high : (statusWord t).extractLsb' 24 8 = 0 := by
  iterate 8 refine (BitVec.extractLsb'_append_eq_of_le (by decide)).trans ?_
  rfl

end

section
variable (r : RegFile)

theorem pinsWord_trig : (pinsWord r).getLsbD 0 = r.pinsTrig :=
  getLsbD_of_extractLsb' BitVec.extractLsb'_append_eq_right

theorem pinsWord_echoSeen : (pinsWord r).getLsbD 1 = r.echoSeen := by
  apply getLsbD_of_extractLsb'
  refine (BitVec.extractLsb'_append_eq_of_le (by decide)).trans ?_
  exact BitVec.extractLsb'_append_eq_right

theorem pinsWord_reserved : (pinsWord r).extractLsb' 2 30 = 0 := by
  iterate 2 refine (BitVec.extractLsb'_append_eq_of_le (by decide)).trans ?_
  rfl

end

theorem regRead_reserved (s : State) : ∀ i : Slot, 10 ≤ i.val → regRead i s = 0 := by
  intro i hi
  unfold regRead
  split
  case h_11 => rfl
  all_goals omega

theorem regWrite_unwritable {i : Slot} (v : Word) (s : State) (h : i ∈ [(1 : Slot), 6, 7, 8, 9] ∨ 10 ≤ i.val) :
    regWrite i v s = s := by
  unfold regWrite
  split
  case h_6 => rfl
  all_goals
    simp only [List.mem_cons, Fin.ext_iff, List.not_mem_nil, or_false] at h
    omega

/-- Settles O7: a read changes only the word the host holds. -/
theorem registerReadsHaveNoSideEffect : Obligations.RegisterReadsHaveNoSideEffect := by
  constructor
  · intro s
    exact ⟨rfl, rfl, rfl, rfl, rfl, rfl, rfl, rfl, pinsWord_trig s.regs, pinsWord_echoSeen s.regs⟩
  · intro s i j
    exact ⟨hostReceives (regRead i s) s, rfl, rfl, rfl, rfl, rfl, rfl, rfl, rfl, rfl, rfl⟩

/-- Settles O8, from the reserved fields of STATUS and PINS and the slots that no write reaches. -/
theorem reservedReadsZeroAndIgnoresWrites : Obligations.ReservedReadsZeroAndIgnoresWrites := by
  intro s v
  exact ⟨regRead_reserved s, statusWord_reserved_low s.status, statusWord_reserved_high s.status,
    pinsWord_reserved s.regs, fun i hi => congrArg _ (regWrite_unwritable v s hi)⟩

/-- Settles O9, field by field. -/
theorem statusFieldsAtTheirBits : Obligations.StatusFieldsAtTheirBits := by
  refine ⟨fun s => ?_, by decide, by decide, by decide⟩
  exact ⟨statusWord_busy _, statusWord_state _, statusWord_err _, statusWord_stage _, statusWord_initOk _,
    statusWord_fault _, statusWord_reserved_low _, statusWord_lastOp _, statusWord_reserved_high _⟩

/-- Settles O14: `State.reset` evaluated. -/
theorem resetLeavesTheStatedValues : Obligations.ResetLeavesTheStatedValues := by
  refine ⟨rfl, rfl, rfl, rfl, ?_, rfl, rfl⟩
  decide

end Sys2Proof.Machine
end

section
/-! The configuration predicates and the limits V latches (R49 to R52). -/

namespace Sys2Proof.Machine

theorem toOk_iff (s : State) : ToOk s ↔ 1000000 ≤ s.regs.clkHz.toNat ∧
    s.regs.timeoutUs.toNat * (s.regs.clkHz.toNat / 1000000) ≤ 2 ^ 32 - 1 :=
  and_congr (clkOk_iff s) Iff.rfl

/-- Settles O17. -/
theorem configurationPredicates : Obligations.ConfigurationPredicates := by
  intro s
  refine ⟨clkOk_iff s, Iff.rfl, toOk_iff s, ?_⟩
  rw [CfgOk, toOk_iff, clkOk_iff]
  tauto

theorem toNat_triggerCycles {s : State} (h : ClkOk s) :
    (triggerCycles s).toNat = s.regs.clkHz.toNat / 1000000 * 10 := by
  rw [triggerCycles, if_pos h, BitVec.toNat_ofNat, cpuUs]
  have := s.regs.clkHz.isLt
  omega

theorem toNat_timeoutCycles {s : State} (h : ToOk s) :
    (timeoutCycles s).toNat = s.regs.timeoutUs.toNat * (s.regs.clkHz.toNat / 1000000) := by
  rw [timeoutCycles, if_pos h, BitVec.toNat_ofNat]
  exact Nat.mod_eq_of_lt (Nat.lt_succ_of_le h.2)

/-- Settles O35: `CPU_US × 10` is at most 42 940 for a 32-bit clock rate, so nothing is lost in 32 bits. -/
theorem latchedLimitsAreExact : Obligations.LatchedLimitsAreExact := by
  intro s
  refine ⟨fun h => ?_, toNat_timeoutCycles⟩
  rw [toNat_triggerCycles h]
  have := (clkOk_iff s).1 h
  have := s.regs.clkHz.isLt
  omega

end Sys2Proof.Machine
end

section
/-! The step that runs the command of an issued word (R30, R41, R73). -/

namespace Sys2Proof.Machine

theorem step_of_core_next {s : State} {rest : List AgentAction} {i : Instr} (hscript : s.world.script = .core :: rest)
    (hbusy : s.status.busy = true) (hi : runningCommand s = some i) :
    step s = exec i { s with world.script := rest } :=
  (step_of_nextAction (nextAction_of_script_cons hscript)).trans (coreTurn_busy hbusy hi)

theorem decode_of_decodeTableWord {w : Nat} {i : Instr} (hw : w < 2 ^ 32) (h : decodeTableWord 32 w = some i) :
    decode (BitVec.ofNat 32 w) = .ok i := by
  unfold decodeTableWord at h
  rw [Nat.mod_eq_of_lt hw, if_pos hw] at h
  split at h
  next hd => cases h; exact hd
  next => cases h

/-- Settles O29: issue latches what selects the command the word decodes to. -/
theorem stepRunsTheDecodedCommand : Obligations.StepRunsTheDecodedCommand := by
  constructor
  · intro s w i rest hw hscript hbusy hop hlvl
    obtain ⟨-, hopc, hlevel⟩ := fields_of_decode hw
    refine step_of_core_next hscript hbusy (ofOpcode_eq_some (hop.trans hopc) fun level hl => ?_)
    subst hl
    rw [← show levelOf w = level from hlevel]
    exact hlvl (congrArg _ hlevel.symm)
  · intro s w i hw htable
    have hd := decode_of_decodeTableWord hw htable
    have hstage : s.withFetchWord 32 w =
        { startWord (BitVec.ofNat 32 w) s with world.script := .core :: s.world.script } := by
      rw [State.withFetchWord, Nat.mod_eq_of_lt hw, stageWord, hd]
    refine ⟨startWord (BitVec.ofNat 32 w) s, ?_, rfl, rfl, rfl, rfl, rfl⟩
    rw [hstage]
    exact step_of_core_next rfl rfl (runningCommand_startWord hd s)

end Sys2Proof.Machine
end

section
/-! Noninterference (R48, R187): two runs of one command that differ in what earlier commands left. -/

namespace Sys2Proof.Machine

/-- The two states are at the same point of the same command, with the same inputs: they agree on all that a branch or a
result of the command can depend on, the latches being compared from where the command has written them. -/
structure SameCourse (t u : State) : Prop where
  ext : t.ext = u.ext
  clkHz : t.regs.clkHz = u.regs.clkHz
  tickHz : t.regs.tickHz = u.regs.tickHz
  timeoutUs : t.regs.timeoutUs = u.regs.timeoutUs
  operandUs : t.regs.operandUs = u.regs.operandUs
  pinsTrig : t.regs.pinsTrig = u.regs.pinsTrig
  uPC : t.seq.uPC = u.seq.uPC
  op : t.seq.op = u.seq.op
  lvl : t.seq.lvl = u.seq.lvl
  busy : t.status.busy = u.status.busy
  state : t.status.state = u.status.state
  err : t.status.err = u.status.err
  stage : t.status.stage = u.status.stage
  n : t.seq.uPC ≠ .v → t.seq.n = u.seq.n
  toCyc : t.seq.uPC ≠ .v → t.seq.toCyc = u.seq.toCyc
  c0 : t.seq.uPC ∈ [Label.w2, .w3] → t.seq.c0 = u.seq.c0
  lastOp : t.status.busy = false → t.status.lastOp = u.status.lastOp

/-- Each result register is equal in `t` and `u`, or in both as it was in `a` and in `b`. -/
def SameResults (a b t u : State) : Prop :=
  (t.regs.resultTicks = u.regs.resultTicks ∧ t.regs.resultUs = u.regs.resultUs ∨
    t.regs.resultTicks = a.regs.resultTicks ∧ u.regs.resultTicks = b.regs.resultTicks ∧
    t.regs.resultUs = a.regs.resultUs ∧ u.regs.resultUs = b.regs.resultUs) ∧
  (t.regs.resultCm = u.regs.resultCm ∨
    t.regs.resultCm = a.regs.resultCm ∧ u.regs.resultCm = b.regs.resultCm)

section
variable {i : Instr} {a b t u : State}

theorem SameCourse.verdictAtV_eq (h : SameCourse t u) : verdictAtV i t = verdictAtV i u := by
  have passes (j : Instr) : ConfigPasses t j ↔ ConfigPasses u j :=
    configPasses_congr j h.clkHz h.tickHz h.timeoutUs
  simp only [verdictAtV, onTo, h.lvl, h.state]
  cases i
  case timerStart | toCm => rfl
  case trigger => exact if_congr (passes .trigger) rfl rfl
  case waitEdge level => exact if_congr (passes (.waitEdge level)) rfl rfl
  case timerStopRead => exact if_congr (passes .timerStopRead) rfl rfl
  all_goals exact if_congr (passes .init) rfl rfl

theorem SameCourse.verdict_eq (h : SameCourse t u) : verdict i t = verdict i u := by
  have onTo_eq (l : Label) : onTo l t = onTo l u := by simp only [onTo, h.lvl, h.state]
  cases hpc : t.seq.uPC <;> simp only [verdict, hpc, ← h.uPC, onTo_eq]
  case v => exact h.verdictAtV_eq
  case t3 => exact if_congr (by rw [cycRead, cycRead, h.n (by simp [hpc]), h.ext]) rfl rfl
  case w2 =>
    simp only [verdictAtW2, onTo_eq, pinRead, h.ext, h.lvl]
    congr
  case w3 =>
    simp only [verdictAtW3, onTo_eq, cycRead, h.toCyc (by simp [hpc]), h.c0 (by simp [hpc]), h.ext, h.lvl]
    congr

/-- W2 and W3 are reached from W1 alone, or from each other. -/
theorem wait_label_of_moves {s : State} {p : Phase} {b : Bool} {l : Label} (h : Moves i s p b l)
    (hl : l ∈ [Label.w2, .w3]) : s.seq.uPC ∈ [Label.w1, .w2, .w3] := by
  cases h with
  | validated pc first =>
    unfold verdictAtV at first
    cases i <;> grind [onTo]
  | quiet move =>
    have : ∀ q ∈ quietMoves, q.2 ∈ [Label.w2, .w3] → q.1 ∈ [Label.w1, .w2, .w3] := by decide
    exact this _ move hl
  | pulseDone | rose | timing | fell | late => simp at hl

/-- Where a micro-step leads to W2 or W3, `c0` has been latched in this wait, by W1 or before. -/
theorem SameCourse.microStep_c0_eq (h : SameCourse t u) (hl : (microStep i t).seq.uPC ∈ [Label.w2, .w3]) :
    (microStep i t).seq.c0 = (microStep i u).seq.c0 := by
  rw [microStep_c0, microStep_c0, ← h.uPC, h.ext]
  split
  · rfl
  next hpc =>
    apply h.c0
    cases hg : verdict i t with
    | goesOn p b l =>
      have := wait_label_of_moves (moves_of_verdict hg) (by rwa [microStep, hg] at hl)
      simpa [hpc] using this
    | completes | fails => rw [microStep, hg] at hl; simp [Verdict.act] at hl

/-- A step of the same command keeps two states on the same course. -/
theorem SameCourse.after_microStep (h : SameCourse t u) (hbusy : t.status.busy = true) :
    SameCourse (microStep i t) (microStep i u) := by
  have hv := h.verdict_eq (i := i)
  have hbusy' : u.status.busy = true := h.busy ▸ hbusy
  have hn : (microStep i t).seq.n = (microStep i u).seq.n := by
    rw [microStep_n, microStep_n, ← h.uPC, triggerCycles_congr h.clkHz]
    split
    · rfl
    next hpc => exact h.n hpc
  have htoCyc : (microStep i t).seq.toCyc = (microStep i u).seq.toCyc := by
    rw [microStep_toCyc, microStep_toCyc, ← h.uPC, timeoutCycles_congr h.clkHz h.timeoutUs]
    split
    · rfl
    next hpc => exact h.toCyc hpc
  constructor
  case n => exact fun _ => hn
  case toCyc => exact fun _ => htoCyc
  case c0 => exact h.microStep_c0_eq
  case ext => simp only [microStep_ext, h.ext, h.uPC]
  case pinsTrig => simp only [microStep_regs, h.pinsTrig, h.uPC]
  case op => rw [microStep_op, microStep_op, h.op]
  case clkHz => simp only [microStep_regs, h.clkHz]
  case tickHz => simp only [microStep_regs, h.tickHz]
  case timeoutUs => simp only [microStep_regs, h.timeoutUs]
  case operandUs => simp only [microStep_regs, h.operandUs]
  all_goals
    simp only [microStep, hv]
    cases verdict i u <;>
      simp [Verdict.act, effect_status, effect_seq, h.op, h.lvl, h.err, h.stage, hbusy, hbusy']

theorem SameResults.after_microStep (hr : SameResults a b t u) (h : SameCourse t u) :
    SameResults a b (microStep i t) (microStep i u) := by
  obtain ⟨hpulse, hcm⟩ := hr
  simp only [SameResults, microStep_regs, h.uPC, h.ext, h.tickHz, h.operandUs]
  refine ⟨?_, ?_⟩
  · by_cases hp : u.seq.uPC = .p2
    · simp [hp]
    · simpa only [if_neg hp] using hpulse
  · by_cases hc : u.seq.uPC = .c1
    · simp [hc]
    · by_cases hp : u.seq.uPC = .p2 ∧ i = .measureCm
      · simp [hp]
      · simpa only [if_neg hc, if_neg hp] using hcm

/-- A step of ENV is the same step in both runs. -/
theorem SameCourse.after_envStep (h : SameCourse t u) (e : EnvStep) : SameCourse (envStep e t) (envStep e u) := by
  have hext : (envStep e t).ext = (envStep e u).ext := by
    cases e with
    | cyc k | echo level => simp only [envStep, h.ext]
    | tmr k =>
      simp only [envStep, h.ext]
      split
      · rfl
      · exact h.ext
  obtain ⟨-, hclk, htick, hto, hop, hpin, hpc, hopc, hlvl, hbusy, hstate, herr, hstage, hn, htoCyc, hc0, hlast⟩ := h
  constructor
  case ext => exact hext
  all_goals simp only [envStep_status, envStep_regs, envStep_seq]; assumption

theorem SameResults.after_envStep (e : EnvStep) (h : SameResults a b t u) :
    SameResults a b (envStep e t) (envStep e u) := by
  simpa only [SameResults, envStep_regs] using h

/-- One action of CORE or ENV in the first run is matched in the second. -/
theorem perform_same_course {x : AgentAction} {t' : State} (hx : isCoreOrEnv x = true) (hc : SameCourse t u)
    (hr : SameResults a b t u) (h : perform x t = .next t') :
    ∃ u', perform x u = .next u' ∧ SameCourse t' u' ∧ SameResults a b t' u' := by
  cases x with
  | host | program | reset => cases hx
  | env e => cases h; exact ⟨_, rfl, hc.after_envStep e, hr.after_envStep e⟩
  | core =>
    obtain ⟨hidle, rfl⟩ | ⟨i, hbusy, hi, hlabel, rfl⟩ := coreTurn_cases h
    · exact ⟨u, coreTurn_idle (hc.busy ▸ hidle), hc, hr⟩
    · have hi' : runningCommand u = some i := by rw [← hi, runningCommand, runningCommand, hc.op, hc.lvl]
      have hexec : exec i u = .next (microStep i u) := exec_eq_next_iff.2 ⟨hc.uPC ▸ hlabel, rfl⟩
      exact ⟨_, (coreTurn_busy (hc.busy ▸ hbusy) hi').trans hexec, hc.after_microStep hbusy, hr.after_microStep hc⟩

theorem runActions_same_course {as : List AgentAction} {t' : State} (hx : ∀ x ∈ as, isCoreOrEnv x = true)
    (hc : SameCourse t u) (hr : SameResults a b t u) (h : runActions as t = .next t') :
    ∃ u', runActions as u = .next u' ∧ SameCourse t' u' ∧ SameResults a b t' u' := by
  induction as generalizing t u with
  | nil => cases h; exact ⟨u, rfl, hc, hr⟩
  | cons x rest ih =>
    obtain ⟨hxx, hrest⟩ := List.forall_mem_cons.1 hx
    cases hp : perform x t with
    | next t₁ =>
      rw [runActions_cons hp] at h
      obtain ⟨u₁, hu, hc₁, hr₁⟩ := perform_same_course hxx hc hr hp
      rw [runActions_cons hu]
      exact ih hrest hc₁ hr₁ h
    | fault r | refused r => simp [runActions, hp] at h

end

theorem perform_write_cmd {w : Word} {i : Instr} {s : State} (hw : decode w = .ok i) (hbusy : s.status.busy = false) :
    perform (.host (.regWrite 0 w)) s = .next (startWord w s) := by
  have hwrite : regWrite 0 w s = startWord w s := (whenIdle_idle _ hbusy).trans (issue_legal hw s)
  exact congrArg _ hwrite

/-- Settles O51, by induction on the actions: the two runs stay on the same course. -/
theorem outcomeIndependentOfEarlierCommands : Obligations.OutcomeIndependentOfEarlierCommands := by
  intro a b w i as t ha hb habusy hbbusy hw hclk htick hto hop hext hx hrun
  rw [runActions_cons (perform_write_cmd hw habusy)] at hrun
  rw [runActions_cons (perform_write_cmd hw hbbusy)]
  have hpin : a.regs.pinsTrig = b.regs.pinsTrig := by rw [ha.trig_mirrored, hb.trig_mirrored, hext]
  have hstart : SameCourse (startWord w a) (startWord w b) := by
    constructor <;> simp [*]
  have hresults : SameResults a b (startWord w a) (startWord w b) :=
    ⟨.inr ⟨rfl, rfl, rfl, rfl⟩, .inr ⟨rfl, rfl⟩⟩
  obtain ⟨u, hu, hc, hpulse, hcm⟩ := runActions_same_course hx hstart hresults hrun
  exact ⟨u, hu, hc.ext, hc.uPC, hc.pinsTrig, hc.busy, hc.state, hc.err, hc.stage, hc.lastOp, hpulse, hcm⟩

end Sys2Proof.Machine
end

section
/-! The host's accesses and the environment's steps as whole next states, and what they cannot do to a running command
(R61 to R68, R73, R204). -/

namespace Sys2Proof.Machine

/-! ### The bus window (R61, R62) -/

theorem blockBase_mod : Config.blockBase % 64 = 0 :=
  Nat.mul_mod_right 64 Config.blockBaseIndex

/-- The admitted accesses are those of 4 bytes at the address of a slot. -/
theorem busAdmitted_iff {addr n : Nat} :
    busAdmitted addr n = true ↔ n = 4 ∧ ∃ i : Slot, addr = Config.blockBase + 4 * i.val := by
  simp only [busAdmitted, Bool.and_eq_true, beq_iff_eq, decide_eq_true_eq]
  constructor
  · rintro ⟨⟨rfl, hlow, hhigh⟩, haligned⟩
    exact ⟨rfl, ⟨(addr - Config.blockBase) / 4, by omega⟩, by simp only; omega⟩
  · rintro ⟨rfl, i, rfl⟩
    omega

theorem busSlot_at (i : Slot) : busSlot (Config.blockBase + 4 * i.val) 4 = some i := by
  rw [busSlot, if_pos (busAdmitted_iff.2 ⟨rfl, i, rfl⟩), Nat.add_sub_cancel_left,
    Nat.mul_div_cancel_left _ (by decide)]
  exact congrArg some (Fin.ofNat_val_eq_self i)

theorem busSlot_none {addr n : Nat} (h : n ≠ 4 ∨ ∀ i : Slot, addr ≠ Config.blockBase + 4 * i.val) :
    busSlot addr n = none := by
  refine if_neg fun hadmitted => ?_
  obtain ⟨hn, i, haddr⟩ := busAdmitted_iff.1 hadmitted
  exact h.elim (fun hne => hne hn) (fun hne => hne i haddr)

/-- Settles O10: `busSlot` answers the slot exactly at the addresses of the slots. -/
theorem onlyAlignedWordAccessesOfTheWindow : Obligations.OnlyAlignedWordAccessesOfTheWindow := by
  refine ⟨blockBase_mod, fun s addr n v => ⟨?_, fun hbad => ?_⟩⟩
  · rintro i rfl rfl
    simp only [perform, hostAccess, busRead, busWrite, busSlot_at, and_self]
  · simp only [perform, hostAccess, busRead, busWrite, busSlot_none hbad, and_self]

/-! ### The host and a running command (R73, R204) -/

/-- `t` is `s` but for FAULT, which may have been set, and for what the host keeps beside the script. -/
structure Undisturbed (s t : State) : Prop where
  seq : t.seq = s.seq
  regs : t.regs = s.regs
  ext : t.ext = s.ext
  status : t.status = s.status ∨ t.status = { s.status with fault := true }
  script : t.world.script = s.world.script

theorem regWrite_undisturbed {s : State} (i : Slot) (v : Word) (hbusy : s.status.busy = true) :
    Undisturbed s (regWrite i v s) := by
  obtain h | ⟨-, h⟩ | ⟨hidle, -⟩ := regWrite_cases i v s
  · rw [h]; exact ⟨rfl, rfl, rfl, .inl rfl, rfl⟩
  · rw [h]; exact ⟨rfl, rfl, rfl, .inr rfl, rfl⟩
  · rw [hbusy] at hidle; cases hidle

theorem hostAccess_undisturbed {x : HostAccess} {s t : State} (hbusy : s.status.busy = true)
    (h : hostAccess x s = .next t) : Undisturbed s t := by
  obtain ⟨w, hread⟩ | ⟨i, v, hwrite⟩ | ⟨hrefused, -⟩ := hostAccess_cases x s
  · cases hread.symm.trans h; exact ⟨rfl, rfl, rfl, .inl rfl, rfl⟩
  · cases hwrite.symm.trans h; exact regWrite_undisturbed i v hbusy
  · cases hrefused.symm.trans h

theorem programTurn_undisturbed {s : State} (hbusy : s.status.busy = true) : Undisturbed s (programTurn s) := by
  obtain h | ⟨p, i, v, h⟩ | ⟨p, w, h⟩ := programTurn_cases s <;> rw [h]
  · exact ⟨rfl, rfl, rfl, .inl rfl, rfl⟩
  · obtain ⟨hseq, hregs, hext, hstatus, hscript⟩ :=
      regWrite_undisturbed (s := { s with world.program := p }) i v hbusy
    exact ⟨hseq, hregs, hext, hstatus, hscript⟩
  · exact ⟨rfl, rfl, rfl, .inl rfl, rfl⟩

theorem hostTurn_undisturbed {x : AgentAction} {s t : State} (hbusy : s.status.busy = true)
    (hx : x = .program ∨ ∃ h, x = .host h) (h : perform x s = .next t) : Undisturbed s t := by
  obtain rfl | ⟨a, rfl⟩ := hx
  · cases h; exact programTurn_undisturbed hbusy
  · exact hostAccess_undisturbed hbusy h

/-- Settles O11: while BUSY = 1 a register write is at most a protocol violation, and a read changes the host alone. -/
theorem hostCannotDisturbARunningCommand : Obligations.HostCannotDisturbARunningCommand := by
  intro s t x hbusy hx h
  obtain ⟨hseq, hregs, hext, hstatus, hscript⟩ := hostTurn_undisturbed hbusy hx h
  exact ⟨hseq, hregs, hext, hstatus, hscript⟩

/-! ### Results (R70, R208) -/

/-- A command that still runs after its step has gone on to a label. -/
theorem verdict_of_busy {i : Instr} {s : State} (h : (microStep i s).status.busy = true) :
    ∃ p b l, verdict i s = .goesOn p b l := by
  cases hv : verdict i s with
  | goesOn p b l => exact ⟨p, b, l, rfl⟩
  | completes | fails => rw [microStep, hv] at h; cases h

theorem microStep_status_of_goesOn {i : Instr} {s : State} {p : Phase} {b : Bool} {l : Label}
    (h : verdict i s = .goesOn p b l) : (microStep i s).status = { (effect i s).status with state := p } := by
  rw [microStep, h]; rfl

theorem verdict_init_at_v {s : State} {p : Phase} {b : Bool} {l : Label} (hpc : s.seq.uPC = .v) :
    verdict .init s ≠ .goesOn p b l := by
  simp only [verdict, hpc, verdictAtV]
  split <;> simp

/-- The labels that write a result register, P2 and C1, complete the command. -/
theorem verdict_completes_of_result_label {i : Instr} {s : State} (hpc : s.seq.uPC = .p2 ∨ s.seq.uPC = .c1) :
    verdict i s = .completes := by
  rcases hpc with hpc | hpc <;> simp only [verdict, hpc]

theorem not_result_label {i : Instr} {s : State}
    (h : (microStep i s).status.busy = true ∨ (microStep i s).status.err ≠ .noError) :
    s.seq.uPC ≠ .p2 ∧ s.seq.uPC ≠ .c1 := by
  rw [← not_or]
  intro hpc
  simp [microStep, verdict_completes_of_result_label hpc, Verdict.act] at h

/-- Settles O27: STATUS is written by the step that ends a command and by V of INIT, which ends INIT; results are written
at P2 and C1, which complete their command. -/
theorem resultsArePublishedAtFinish : Obligations.ResultsArePublishedAtFinish := by
  intro s t h hbusy
  obtain ⟨hidle, -⟩ | ⟨i, -, -, -, rfl⟩ := coreTurn_cases h
  · rw [hbusy] at hidle; cases hidle
  refine ⟨fun hruns => ?_, fun hend => ?_⟩
  · obtain ⟨p, b, l, hv⟩ := verdict_of_busy hruns
    have hinit : ¬ (s.seq.uPC = .v ∧ i = .init) := fun ⟨hpc, hi⟩ => verdict_init_at_v hpc (hi ▸ hv)
    rw [microStep_status_of_goesOn hv, effect_status, if_neg hinit]
    exact ⟨rfl, rfl, rfl, rfl⟩
  · obtain ⟨hp2, hc1⟩ := not_result_label hend
    simp only [microStep_regs, hp2, hc1, false_and, if_false, and_self]

/-! ### Writes to an idle block, and the environment (R65, R66, R68) -/

theorem perform_write_idle {i : Slot} {v : Word} {s : State} (f : State → State) (hidle : s.status.busy = false)
    (hslot : regWrite i v s = whenIdle f s) : perform (.host (.regWrite i v)) s = .next (f s) :=
  congrArg Host.Outcome.next (hslot.trans (whenIdle_idle f hidle))

/-- Settles O6: an idle block accepts the four writes. -/
theorem configurationWritesClearInitOk : Obligations.ConfigurationWritesClearInitOk := by
  intro s v hidle
  refine ⟨?clkHz, ?tickHz, ?timeoutUs, ?operandUs⟩
  case clkHz => exact perform_write_idle (fun s => { s with regs.clkHz := v, status.initOk := false }) hidle rfl
  case tickHz => exact perform_write_idle (fun s => { s with regs.tickHz := v, status.initOk := false }) hidle rfl
  case timeoutUs => exact perform_write_idle (fun s => { s with regs.timeoutUs := v, status.initOk := false }) hidle rfl
  case operandUs => exact perform_write_idle (fun s => { s with regs.operandUs := v }) hidle rfl

/-- Settles O13, step by step of ENV. -/
theorem environmentOnlyMovesCountersAndEcho : Obligations.EnvironmentOnlyMovesCountersAndEcho := by
  intro s k b
  refine ⟨⟨_, rfl, ?_⟩, fun hrun => ⟨_, congrArg Host.Outcome.next (if_pos hrun), ?_⟩, fun hstopped => ?_, rfl⟩
  · rw [BitVec.toNat_add, BitVec.toNat_ofNat, Nat.add_mod_mod]
  · rw [BitVec.toNat_add, BitVec.toNat_ofNat, Nat.add_mod_mod]
  · exact congrArg Host.Outcome.next (if_neg (by simp [hstopped]))

end Sys2Proof.Machine
end

section
/-! A 32-bit counter sampled at intervals that do not let it skip past a bound (R75, part (c); R252). -/

namespace Sys2Proof.Machine

/-- A sum over the steps between two actions of a run, counted from a later start. -/
theorem sum_Ioo_shift (f : Nat → Nat) (n a b : Nat) :
    ∑ k ∈ Finset.Ioo a b, f (n + k) = ∑ k ∈ Finset.Ioo (n + a) (n + b), f k := by
  rw [← Finset.map_add_left_Ioo, Finset.sum_map]
  rfl

/-- Advances of at least 1 that come again and again exceed every bound. -/
theorem sum_Ico_unbounded {adv : Nat → Nat} (hadv : ∀ k, ∃ a, k ≤ a ∧ 1 ≤ adv a) (start bound : Nat) :
    ∃ j, start < j ∧ bound ≤ ∑ k ∈ Finset.Ico start j, adv k := by
  induction bound with
  | zero => exact ⟨start + 1, by omega, Nat.zero_le _⟩
  | succ bound ih =>
    obtain ⟨j, hj, hsum⟩ := ih
    obtain ⟨a, ha, hone⟩ := hadv j
    refine ⟨a + 1, by omega, ?_⟩
    rw [Finset.sum_Ico_succ_top (by omega), ← Finset.sum_Ico_consecutive _ hj.le ha]
    omega

/-- A counter `v` that advances by `adv k` at step `k`, stands still at each sample, and between two consecutive samples
advances by at most `2^32 − 1 − bound`. -/
structure Sampled (v : Nat → Word) (adv : Nat → Nat) (sample : Nat → Prop) (bound : Nat) : Prop where
  step : ∀ k, v (k + 1) = v k + BitVec.ofNat 32 (adv k)
  still : ∀ a, sample a → adv a = 0
  jump : ∀ a b, a < b → sample a → sample b → (∀ c, a < c → c < b → ¬ sample c) →
    ∑ k ∈ Finset.Ioo a b, adv k ≤ 2 ^ 32 - 1 - bound
  fits : bound < 2 ^ 32

section
variable {v : Nat → Word} {adv : Nat → Nat} {sample : Nat → Prop} {bound start j : Nat}

theorem Sampled.eq_add_sum (h : Sampled v adv sample bound) (hj : start ≤ j) :
    v j = v start + BitVec.ofNat 32 (∑ k ∈ Finset.Ico start j, adv k) := by
  induction j, hj using Nat.le_induction with
  | base => simp
  | succ j hj ih => rw [h.step, ih, Finset.sum_Ico_succ_top hj, BitVec.ofNat_add, BitVec.add_assoc]

/-- As long as the sum fits in 32 bits, the counter is its value at `start` and the advances since. -/
theorem Sampled.toNat_of_lt (h : Sampled v adv sample bound) (hj : start ≤ j)
    (hlt : (v start).toNat + ∑ k ∈ Finset.Ico start j, adv k < 2 ^ 32) :
    (v j).toNat = (v start).toNat + ∑ k ∈ Finset.Ico start j, adv k := by
  rw [h.eq_add_sum hj, BitVec.toNat_add, BitVec.toNat_ofNat, Nat.add_mod_mod, Nat.mod_eq_of_lt hlt]

/-- While every sample is below the bound, the counter never wraps between two of them: at the last sample before any
point, the advances since `start` are still below the bound. -/
theorem Sampled.last_sample_below (h : Sampled v adv sample bound) (hbelow : ∀ a, sample a → (v a).toNat < bound)
    (hstart : sample start) (hj : start < j) :
    ∃ a, start ≤ a ∧ a < j ∧ sample a ∧ (∀ c, a < c → c < j → ¬ sample c) ∧
      (v start).toNat + ∑ k ∈ Finset.Ico start a, adv k < bound := by
  induction j, hj using Nat.le_induction with
  | base => exact ⟨start, le_rfl, Nat.lt_succ_self _, hstart, by omega, by simpa using hbelow start hstart⟩
  | succ j hj ih =>
    obtain ⟨a, hsa, haj, hsample, hlast, hsum⟩ := ih
    by_cases hsj : sample j
    · have hsplit : ∑ k ∈ Finset.Ico start j, adv k =
          ∑ k ∈ Finset.Ico start a, adv k + ∑ k ∈ Finset.Ioo a j, adv k := by
        rw [← Finset.sum_Ico_consecutive _ hsa haj.le, ← Finset.add_sum_Ioo_eq_sum_Ico haj, h.still a hsample,
          zero_add]
      have hjump := h.jump a j haj hsample hsj hlast
      have hfits := h.fits
      have hvalue := h.toNat_of_lt (Nat.le_of_succ_le hj) (by omega)
      exact ⟨j, by omega, by omega, hsj, by omega, hvalue ▸ hbelow j hsj⟩
    · refine ⟨a, hsa, by omega, hsample, fun c hac hcj => ?_, hsum⟩
      obtain hlt | rfl := Nat.lt_succ_iff_lt_or_eq.1 hcj
      · exact hlast c hac hlt
      · exact hsj

/-- A counter that is sampled again and again and keeps advancing is sampled at the bound or above it. -/
theorem Sampled.reaches_bound (h : Sampled v adv sample bound) (hsample : ∀ k, ∃ a, k ≤ a ∧ sample a)
    (hadv : ∀ k, ∃ a, k ≤ a ∧ 1 ≤ adv a) : ∃ a, sample a ∧ bound ≤ (v a).toNat := by
  by_contra hnone
  have hbelow (a : Nat) (ha : sample a) : (v a).toNat < bound :=
    Nat.lt_of_not_le fun hle => hnone ⟨a, ha, hle⟩
  obtain ⟨start, -, hstart⟩ := hsample 0
  obtain ⟨j, hj, hfar⟩ := sum_Ico_unbounded hadv start bound
  obtain ⟨b, hjb, hb⟩ := hsample j
  obtain ⟨a, -, hab, -, hlast, hsum⟩ := h.last_sample_below hbelow hstart (show start < b + 1 by omega)
  obtain rfl : a = b := by
    by_contra hne
    exact hlast b (by omega) (Nat.lt_succ_self b) hb
  rw [← Finset.sum_Ico_consecutive _ hj.le hjb] at hsum
  omega

end

end Sys2Proof.Machine
end

section
/-! The two busy-waits, T3 and W2 with W3: every other CORE step of a running command brings it nearer to its end
(R104, R123, R124, R182). -/

namespace Sys2Proof.Machine

/-- How many stages a command at a label with a wait level has at most before it: T3 is one, and the pair of W2 and W3
is one for each level (R182). -/
def stagesLeft (q : Sequencer) : Nat :=
  match q.uPC with
  | .v => 12
  | .t1 => 11
  | .t2 => 10
  | .t3 => 9
  | .t4 => 8
  | .w1 => if q.lvl then 7 else 3
  | .w2 => if q.lvl then 6 else 2
  | .w3 => if q.lvl then 6 else 2
  | .s1 => 5
  | .s2 => 4
  | .p1 => 1
  | .p2 => 0
  | .x1 => 0
  | .c1 => 0
  | .bot => 0

/-- The moves of the busy-waits. -/
def waitMoves : List (Label × Label) := [(.t3, .t3), (.w2, .w3), (.w3, .w2)]

/-- What the running busy-wait measures: the counter since T2, or since W1 (R104, R124). -/
def waited (s : State) : Word := if s.seq.uPC = .t3 then s.ext.cyccnt else s.ext.cyccnt - s.seq.c0

/-- The bound of the running busy-wait (R104, R124). -/
def waitBound (s : State) : Word := if s.seq.uPC = .t3 then s.seq.n else s.seq.toCyc

/-- A CORE step of a busy-wait that goes on: the counter and the latches stay, and a sample of the counter is below the
bound. -/
structure Waits (s t : State) : Prop where
  move : (s.seq.uPC, t.seq.uPC) ∈ waitMoves
  lvl : t.seq.lvl = s.seq.lvl
  n : t.seq.n = s.seq.n
  toCyc : t.seq.toCyc = s.seq.toCyc
  c0 : t.seq.c0 = s.seq.c0
  cyccnt : t.ext.cyccnt = s.ext.cyccnt
  below : s.seq.uPC ≠ .w2 → waited s < waitBound s

theorem stagesLeft_lt_of_ne_v {q : Sequencer} (h : q.uPC ≠ .v) : stagesLeft q < 12 := by
  unfold stagesLeft
  split
  case h_1 hv => exact absurd hv h
  all_goals grind

theorem quietMoves_stages {q r : Sequencer} (hmove : (q.uPC, r.uPC) ∈ quietMoves) (hlvl : r.lvl = q.lvl)
    (hbot : q.uPC ≠ .bot) : ((q.uPC, r.uPC) ∈ waitMoves ∧ r.lvl = q.lvl) ∨ stagesLeft r < stagesLeft q := by
  simp only [quietMoves, waitMoves, stagesLeft, List.mem_cons, List.not_mem_nil, Prod.mk.injEq] at *
  grind

/-- Every way in which a command goes on is a step of a busy-wait or leaves it fewer stages. -/
theorem moves_waits_or_stages_lt {i : Instr} {s : State} {p : Phase} {r : Sequencer}
    (hi : runningCommand s = some i) (hr : Running i s) (h : Moves i s p r.lvl r.uPC) :
    ((s.seq.uPC, r.uPC) ∈ waitMoves ∧ r.lvl = s.seq.lvl) ∨ stagesLeft r < stagesLeft s.seq := by
  have hbot : s.seq.uPC ≠ .bot := fun hpc => bot_not_mem i (hpc ▸ hr.label)
  have ha := arrival_of_moves hi hr h
  generalize hl : r.uPC = l at *
  generalize hb : r.lvl = b at *
  cases h with
  | validated pc first =>
    refine .inr ((stagesLeft_lt_of_ne_v (hl ▸ ha.past_v)).trans_eq ?_)
    simp [stagesLeft, pc]
  | quiet move => subst hl; exact hb ▸ quietMoves_stages move hb hbot
  | pulseDone measure pc | timing measure pc | rose measure pc level | fell measure pc level | late measure pc level =>
    right
    simp [stagesLeft, *]

/-- A sample of the counter that lets its busy-wait go on is below the bound (R104, R124). -/
theorem waited_lt_of_verdict {i : Instr} {s : State} {p : Phase} {b : Bool} {l : Label}
    (hv : verdict i s = .goesOn p b l) (hmove : (s.seq.uPC, l) ∈ waitMoves) (hpc : s.seq.uPC ≠ .w2) :
    waited s < waitBound s := by
  simp only [waitMoves, List.mem_cons, List.not_mem_nil, Prod.mk.injEq, or_false] at hmove
  by_contra hreached
  rw [BitVec.not_lt] at hreached
  obtain ⟨ht3, rfl⟩ | ⟨hw2, -⟩ | ⟨hw3, rfl⟩ := hmove
  · have hn : s.seq.n ≤ cycRead s := by simpa only [waited, waitBound, ht3, if_true, cycRead] using hreached
    simp only [verdict, ht3, if_pos hn] at hv
    cases hv
  · exact hpc hw2
  · have hcyc : s.seq.toCyc ≤ cycRead s - s.seq.c0 := by
      simpa only [waited, waitBound, hw3, reduceCtorEq, if_false, cycRead] using hreached
    simp only [verdict, hw3, verdictAtW3, if_pos hcyc] at hv
    grind [onTo]

theorem waits_of_verdict {i : Instr} {s : State} {p : Phase} {b : Bool} {l : Label}
    (hv : verdict i s = .goesOn p b l) (hmove : (s.seq.uPC, l) ∈ waitMoves) (hlvl : b = s.seq.lvl) :
    Waits s (microStep i s) := by
  have hlabels : ∀ q ∈ waitMoves, q.1 ≠ .v ∧ q.1 ≠ .w1 ∧ q.1 ≠ .t2 := by decide
  obtain ⟨hnv, hnw1, hnt2⟩ := hlabels _ hmove
  have hpc : (microStep i s).seq.uPC = l := by rw [microStep, hv]; rfl
  exact {
    move := hpc ▸ hmove
    lvl := by rw [microStep, hv]; exact hlvl
    n := by rw [microStep_n, if_neg hnv]
    toCyc := by rw [microStep_toCyc, if_neg hnv]
    c0 := by rw [microStep_c0, if_neg hnw1]
    cyccnt := by simp only [microStep_ext, if_neg hnt2]
    below := waited_lt_of_verdict hv hmove }

theorem Waits.stagesLeft_eq {s t : State} (h : Waits s t) : stagesLeft t.seq = stagesLeft s.seq := by
  have hmove := h.move
  simp only [waitMoves, List.mem_cons, List.not_mem_nil, Prod.mk.injEq, or_false] at hmove
  unfold stagesLeft
  obtain ⟨hs, ht⟩ | ⟨hs, ht⟩ | ⟨hs, ht⟩ := hmove <;> simp only [hs, ht, h.lvl]

/-- A CORE step after which the command still runs is a step of a busy-wait or leaves it fewer stages. -/
theorem core_waits_or_stages_lt {s t : State} (hinv : BlockInv s) (hbusy : s.status.busy = true)
    (h : perform .core s = .next t) (hruns : t.status.busy = true) :
    Waits s t ∨ stagesLeft t.seq < stagesLeft s.seq := by
  obtain ⟨hidle, -⟩ | ⟨i, -, hi, -, rfl⟩ := coreTurn_cases h
  · rw [hbusy] at hidle; cases hidle
  obtain ⟨_, hi', hr⟩ := hinv.running hbusy
  cases hi.symm.trans hi'
  obtain ⟨p, b, l, hv⟩ := verdict_of_busy hruns
  have hpc : (microStep i s).seq.uPC = l := by rw [microStep, hv]; rfl
  have hlvl : (microStep i s).seq.lvl = b := by rw [microStep, hv]; rfl
  have hmoves := moves_of_verdict hv
  rw [← hpc, ← hlvl] at hmoves
  exact (moves_waits_or_stages_lt hi hr hmoves).imp_left fun ⟨hmove, hkept⟩ =>
    waits_of_verdict hv (hpc ▸ hmove) (hlvl ▸ hkept)

/-- While a command runs, no action of another agent moves the sequencer, and the cycle counter only advances (R68,
R73). -/
theorem other_turn_while_busy {a : AgentAction} {s t : State} (hcore : a ≠ .core) (hbusy : s.status.busy = true)
    (h : perform a s = .next t) (hruns : t.status.busy = true) :
    t.seq = s.seq ∧ t.ext.cyccnt = s.ext.cyccnt + BitVec.ofNat 32 (cycAdvance a) := by
  cases a with
  | core => exact absurd rfl hcore
  | env e =>
    cases h
    exact ⟨envStep_seq e s, by rw [envStep_cyccnt]; cases e <;> rfl⟩
  | host x =>
    obtain ⟨hseq, -, hext, -, -⟩ := hostAccess_undisturbed hbusy h
    exact ⟨hseq, by simp [hext, cycAdvance]⟩
  | program =>
    obtain ⟨hseq, -, hext, -, -⟩ := hostTurn_undisturbed hbusy (.inl rfl) h
    exact ⟨hseq, by simp [hext, cycAdvance]⟩
  | reset => cases h; cases hruns

end Sys2Proof.Machine
end

section
/-! Liveness under the fairness premise (R75, R252, R260): a command that never ends would be in one busy-wait for ever, and
there the samples of the counter reach the bound. -/

namespace Sys2Proof.Machine

section
variable {σ : Nat → AgentAction} {ρ : Nat → State}

/-! ### Later parts of a run -/

theorem IsRun.blockInv (h : IsRun σ ρ) (h0 : BlockInv (ρ 0)) (n : Nat) : BlockInv (ρ n) := by
  induction n with
  | zero => exact h0
  | succ n ih => exact turn_keeps_blockInv ih (turn_of_perform (h n))

theorem Fair.tail (h : Fair σ ρ) (n : Nat) : Fair (fun k => σ (n + k)) (fun k => ρ (n + k)) where
  core k hbusy := by
    obtain ⟨m, hm, hcore⟩ := h.core (n + k) hbusy
    obtain ⟨d, rfl⟩ := Nat.exists_eq_add_of_le (show n ≤ m by omega)
    exact ⟨d, by omega, hcore⟩
  cyc k := by
    obtain ⟨m, j, hm, hj, hcyc⟩ := h.cyc (n + k)
    obtain ⟨d, rfl⟩ := Nat.exists_eq_add_of_le (show n ≤ m by omega)
    exact ⟨d, j, by omega, hj, hcyc⟩
  jumps a b hab ha hb hlast := by
    rw [sum_Ioo_shift (fun k => cycAdvance (σ k))]
    refine h.jumps (n + a) (n + b) (by omega) ha hb fun c hac hcb => ?_
    obtain ⟨d, rfl⟩ := Nat.exists_eq_add_of_le (show n ≤ c by omega)
    exact hlast d (by omega) (by omega)

/-! ### A run that stays in a busy-wait -/

/-- A fair run in which a command runs at every point and each of its CORE steps is a step of a busy-wait. -/
structure Hangs (σ : Nat → AgentAction) (ρ : Nat → State) : Prop where
  fair : Fair σ ρ
  busy : ∀ k, (ρ k).status.busy = true
  core : ∀ k, σ k = .core → Waits (ρ k) (ρ (k + 1))
  other : ∀ k, σ k ≠ .core → (ρ (k + 1)).seq = (ρ k).seq ∧
    (ρ (k + 1)).ext.cyccnt = (ρ k).ext.cyccnt + BitVec.ofNat 32 (cycAdvance (σ k))

/-- CORE's next step finds the sequencer as it is now. -/
theorem Hangs.next_core (h : Hangs σ ρ) (k : Nat) : ∃ m, k ≤ m ∧ σ m = .core ∧ (ρ m).seq = (ρ k).seq := by
  obtain ⟨m, hkm, hcore⟩ : ∃ m, k ≤ m ∧ σ m = .core := by
    obtain ⟨m, hkm, hcore | hidle⟩ := h.fair.core k (h.busy k)
    · exact ⟨m, hkm, hcore⟩
    · rw [h.busy m] at hidle; cases hidle
  obtain ⟨d, rfl⟩ := Nat.exists_eq_add_of_le hkm
  clear hkm
  induction d generalizing k with
  | zero => exact ⟨k, le_rfl, hcore, rfl⟩
  | succ d ih =>
    by_cases hk : σ k = .core
    · exact ⟨k, le_rfl, hk, rfl⟩
    · obtain ⟨m, hm, hcore', hseq⟩ := ih (k + 1) (by rwa [Nat.add_right_comm, Nat.add_assoc])
      exact ⟨m, by omega, hcore', hseq.trans (h.other k hk).1⟩

theorem Hangs.label (h : Hangs σ ρ) (k : Nat) : (ρ k).seq.uPC ∈ [Label.t3, .w2, .w3] := by
  have hsources : ∀ q ∈ waitMoves, q.1 ∈ [Label.t3, .w2, .w3] := by decide
  obtain ⟨m, -, hcore, hseq⟩ := h.next_core k
  exact hseq ▸ hsources _ (h.core m hcore).move

/-- Step `k` is CORE's and not at W2: where the run hangs, one at T3 or W3. -/
def SamplesWait (σ : Nat → AgentAction) (ρ : Nat → State) (k : Nat) : Prop :=
  σ k = .core ∧ (ρ k).seq.uPC ≠ .w2

theorem Hangs.samplesWait_iff (h : Hangs σ ρ) (k : Nat) : SamplesWait σ ρ k ↔ SamplesCounter σ ρ k := by
  have := h.label k
  have := h.busy k
  unfold SamplesWait SamplesCounter
  grind

/-- A W2 that goes on leads to a W3, so the wait is sampled again and again. -/
theorem Hangs.samples_again (h : Hangs σ ρ) (k : Nat) : ∃ m, k ≤ m ∧ SamplesWait σ ρ m := by
  have hnext : ∀ q ∈ waitMoves, q.1 = .w2 → q.2 ≠ .w2 := by decide
  obtain ⟨m, hkm, hcore, -⟩ := h.next_core k
  by_cases hpc : (ρ m).seq.uPC = .w2
  · obtain ⟨m', hm', hcore', hseq⟩ := h.next_core (m + 1)
    exact ⟨m', by omega, hcore', hseq ▸ hnext _ (h.core m hcore).move hpc⟩
  · exact ⟨m, hkm, hcore, hpc⟩

/-- Every step keeps the wait's bound and what it measures, but for the counter's advance. -/
theorem Hangs.step (h : Hangs σ ρ) (k : Nat) :
    waited (ρ (k + 1)) = waited (ρ k) + BitVec.ofNat 32 (cycAdvance (σ k)) ∧
    waitBound (ρ (k + 1)) = waitBound (ρ k) := by
  by_cases hk : σ k = .core
  · have hsame : ∀ q ∈ waitMoves, q.2 = .t3 ↔ q.1 = .t3 := by decide
    have hw := h.core k hk
    simp only [waited, waitBound, hsame _ hw.move, hw.n, hw.toCyc, hw.c0, hw.cyccnt, hk, cycAdvance, BitVec.add_zero,
      and_self]
  · obtain ⟨hseq, hcyc⟩ := h.other k hk
    simp only [waited, waitBound, hseq, hcyc, and_true]
    split
    · rfl
    · exact BitVec.add_sub_comm

theorem Hangs.waitBound_eq (h : Hangs σ ρ) (k : Nat) : waitBound (ρ k) = waitBound (ρ 0) := by
  induction k with
  | zero => rfl
  | succ k ih => rw [(h.step k).2, ih]

theorem waitBound_le_max (s : State) : (waitBound s).toNat ≤ max s.seq.n.toNat s.seq.toCyc.toNat := by
  unfold waitBound
  split
  · exact le_max_left _ _
  · exact le_max_right _ _

/-- What the wait measures does not skip past its bound between two samples (R75, part (c)). -/
theorem Hangs.sampled (h : Hangs σ ρ) : Sampled (fun k => waited (ρ k)) (fun k => cycAdvance (σ k)) (SamplesWait σ ρ)
    (waitBound (ρ 0)).toNat where
  step k := (h.step k).1
  still a ha := by rw [ha.1]; rfl
  jump a b hab ha hb hlast := by
    simp only [h.samplesWait_iff] at ha hb hlast
    have hjump := h.fair.jumps a b hab ha hb hlast
    have hmax := waitBound_le_max (ρ b)
    rw [h.waitBound_eq b] at hmax
    omega
  fits := BitVec.isLt _

theorem Hangs.advances_again (h : Hangs σ ρ) (k : Nat) : ∃ m, k ≤ m ∧ 1 ≤ cycAdvance (σ m) := by
  obtain ⟨m, j, hm, hj, hcyc⟩ := h.fair.cyc k
  exact ⟨m, hm, by rwa [hcyc]⟩

/-- No fair run hangs: the samples of the wait reach its bound, where the wait does not go on. -/
theorem not_hangs : ¬ Hangs σ ρ := by
  intro h
  obtain ⟨a, ⟨hcore, hpc⟩, hreached⟩ := h.sampled.reaches_bound h.samples_again h.advances_again
  have hbelow := (h.core a hcore).below hpc
  rw [h.waitBound_eq a] at hbelow
  exact Nat.not_lt.2 hreached hbelow

/-! ### A command that never ends -/

/-- The stages left never rise, so from some point on they stay, and then every CORE step is a step of a busy-wait. -/
theorem exists_hangs (hrun : IsRun σ ρ) (hinv : ∀ k, BlockInv (ρ k)) (hfair : Fair σ ρ)
    (hbusy : ∀ k, (ρ k).status.busy = true) : ∃ n, Hangs (fun k => σ (n + k)) (fun k => ρ (n + k)) := by
  have hcore (k : Nat) (hk : σ k = .core) :
      Waits (ρ k) (ρ (k + 1)) ∨ stagesLeft (ρ (k + 1)).seq < stagesLeft (ρ k).seq :=
    core_waits_or_stages_lt (hinv k) (hbusy k) (hk ▸ hrun k) (hbusy (k + 1))
  have hother (k : Nat) (hk : σ k ≠ .core) := other_turn_while_busy hk (hbusy k) (hrun k) (hbusy (k + 1))
  have hanti : Antitone fun k => stagesLeft (ρ k).seq := antitone_nat_of_succ_le fun k => by
    by_cases hk : σ k = .core
    · exact (hcore k hk).elim (fun hw => hw.stagesLeft_eq.le) (fun hlt => hlt.le)
    · rw [(hother k hk).1]
  obtain ⟨n, hconst⟩ := WellFoundedLT.antitone_chain_condition hanti
  refine ⟨n, hfair.tail n, fun k => hbusy (n + k), fun k hk => ?_, fun k hk => hother (n + k) hk⟩
  refine (hcore (n + k) hk).resolve_right (Nat.not_lt.2 ?_)
  exact ((hconst (n + k) (by omega)).symm.trans (hconst (n + k + 1) (by omega))).le

end

/-- Settles O52: from a point after which BUSY stayed 1, the run would come to hang. -/
theorem fairRunsEndEveryCommand : Obligations.FairRunsEndEveryCommand := by
  intro σ ρ hrun h0 hfair n
  by_contra hnever
  have hbusy (k : Nat) : (ρ (n + k)).status.busy = true := by
    by_contra hidle
    exact hnever ⟨n + k, by omega, by simpa using hidle⟩
  obtain ⟨m, hangs⟩ := exists_hangs (fun k => hrun (n + k)) (fun k => hrun.blockInv h0 (n + k)) (hfair.tail n) hbusy
  exact not_hangs hangs

end Sys2Proof.Machine
end

section
/-! Command words: decoding and encoding, the legal words, and the match and mask pairs (R80 to R85, R96). -/

namespace Sys2Proof.Machine

/-! ### A word and its three fields -/

theorem encode_eq_of_fields {w : Word} {i : Instr} (hrsv : rsvOf w = 0) (hop : opcOf w = opcode i)
    (hlevel : levelOf w = levelField i) : encode i = w := by
  rw [encode, ← hlevel, ← hop, ← show rsvOf w = 0#23 from hrsv, word_of_fields]

/-- LEVEL is set on WAIT_EDGE alone (R82). -/
theorem opcode_of_levelField {i : Instr} (h : levelField i = true) : opcode i = 0x03 := by
  cases i with
  | waitEdge level => rfl
  | _ => cases h

theorem decode_encode (i : Instr) : decode (encode i) = .ok i := by
  have hlevel : ¬ (levelField i = true ∧ opcode i ≠ 0x03) := fun ⟨h, hop⟩ => hop (opcode_of_levelField h)
  simp only [decode, rsvOf_encode, opcOf_encode, levelOf_encode, ofOpcode_opcode, if_true, if_neg hlevel]

/-- A word decodes to a command exactly when its fields are the command's (R80, R85). -/
theorem decode_eq_ok_iff {w : Word} {i : Instr} :
    decode w = .ok i ↔ rsvOf w = 0 ∧ opcOf w = opcode i ∧ levelOf w = levelField i := by
  refine ⟨fields_of_decode, fun ⟨hrsv, hop, hlevel⟩ => ?_⟩
  rw [← encode_eq_of_fields hrsv hop hlevel, decode_encode]

/-- Settles O1: a command and its word have the same fields, and a word is its fields. -/
theorem decodeAndEncodeAreInverse : Obligations.DecodeAndEncodeAreInverse := by
  refine ⟨fun i _ => decode_encode i, fun w i h => ?_⟩
  obtain ⟨hrsv, hop, hlevel⟩ := fields_of_decode h
  exact encode_eq_of_fields hrsv hop hlevel

/-! ### The legal words (R85) -/

/-- The opcode and LEVEL fields that some command has (R81, R82). -/
theorem exists_command_iff {opc : Opcode} {level : Bool} :
    (∃ i, opc = opcode i ∧ level = levelField i) ↔
      opc ∈ [(0x01 : BitVec 8), 0x02, 0x03, 0x04, 0x05, 0x06, 0x07, 0x08] ∧ (level = false ∨ opc = 0x03) := by
  constructor
  · rintro ⟨i, rfl, rfl⟩
    cases i <;> simp [opcode, levelField]
  · rintro ⟨hop, hlevel⟩
    obtain ⟨i, hi⟩ : ∃ i, opc = opcode i := by
      simp only [List.mem_cons, List.not_mem_nil, or_false] at hop
      obtain h | h | h | h | h | h | h | h := hop
      exacts [⟨.init, h⟩, ⟨.trigger, h⟩, ⟨.waitEdge false, h⟩, ⟨.timerStart, h⟩, ⟨.timerStopRead, h⟩, ⟨.toCm, h⟩,
        ⟨.measureUs, h⟩, ⟨.measureCm, h⟩]
    by_cases hwait : opc = 0x03
    · exact ⟨.waitEdge level, hwait, rfl⟩
    · refine ⟨i, hi, (hlevel.resolve_right hwait).trans ?_⟩
      exact (Bool.eq_false_of_not_eq_true fun hset => hwait (hi.trans (opcode_of_levelField hset))).symm

theorem decodes_iff {w : Word} :
    (∃ i, decode w = .ok i) ↔ rsvOf w = 0 ∧
      opcOf w ∈ [(0x01 : BitVec 8), 0x02, 0x03, 0x04, 0x05, 0x06, 0x07, 0x08] ∧
      (levelOf w = false ∨ opcOf w = 0x03) := by
  simp only [decode_eq_ok_iff, exists_and_left, exists_command_iff]

/-! ### The match and mask pairs (R85) -/

theorem word_eq_iff {w v : Word} : w = v ↔ rsvOf w = rsvOf v ∧ levelOf w = levelOf v ∧ opcOf w = opcOf v := by
  refine ⟨fun h => h ▸ ⟨rfl, rfl, rfl⟩, fun ⟨hrsv, hlevel, hop⟩ => ?_⟩
  rw [← word_of_fields w, ← word_of_fields v, hrsv, hlevel, hop]

/-- Each mask covers RSV and OPC, and each value has RSV and LEVEL 0. -/
theorem opcodeRow_fields : ∀ r ∈ opcodeRows,
    rsvOf r.mask = BitVec.allOnes 23 ∧ opcOf r.mask = BitVec.allOnes 8 ∧ rsvOf r.value = 0 ∧
      levelOf r.value = false := by
  decide

/-- What a pair asks of each field of a word. -/
theorem row_accepts_iff {r : OpcodeRow} (hr : r ∈ opcodeRows) (w : Word) :
    w &&& r.mask = r.value ↔
      rsvOf w = 0 ∧ (levelOf w && levelOf r.mask) = false ∧ opcOf w = opcOf r.value := by
  obtain ⟨hrsvMask, hopMask, hrsv, hlevel⟩ := opcodeRow_fields r hr
  have rsv_and : rsvOf (w &&& r.mask) = rsvOf w := by
    rw [rsvOf, BitVec.extractLsb'_and, ← rsvOf, ← rsvOf, hrsvMask, BitVec.and_allOnes]
  have opc_and : opcOf (w &&& r.mask) = opcOf w := by
    rw [opcOf, BitVec.extractLsb'_and, ← opcOf, ← opcOf, hopMask, BitVec.and_allOnes]
  have level_and : levelOf (w &&& r.mask) = (levelOf w && levelOf r.mask) := BitVec.getLsbD_and
  rw [word_eq_iff, rsv_and, opc_and, level_and, hrsv, hlevel]

/-- Every command has a pair of its mnemonic. -/
theorem exists_row_of_mnemonic (i : Instr) : ∃ r ∈ opcodeRows, r.mnemonic = mnemonic i := by
  cases i <;> decide +revert

/-- A pair of a command's mnemonic is for its opcode, and leaves free the LEVEL the command has (R82, R84). -/
theorem row_of_mnemonic (i : Instr) : ∀ r ∈ opcodeRows, r.mnemonic = mnemonic i →
    opcOf r.value = opcode i ∧ (levelField i && levelOf r.mask) = false := by
  cases i <;> decide +revert

theorem decode_eq_ok_iff_row {w : Word} {i : Instr} :
    decode w = .ok i ↔
      ∃ r ∈ opcodeRows, w &&& r.mask = r.value ∧ r.mnemonic = mnemonic i ∧ levelField i = levelOf w := by
  rw [decode_eq_ok_iff]
  constructor
  · rintro ⟨hrsv, hop, hlevel⟩
    obtain ⟨r, hr, hname⟩ := exists_row_of_mnemonic i
    obtain ⟨hvalue, hfree⟩ := row_of_mnemonic i r hr hname
    exact ⟨r, hr, (row_accepts_iff hr w).2 ⟨hrsv, hlevel ▸ hfree, hop.trans hvalue.symm⟩, hname, hlevel.symm⟩
  · rintro ⟨r, hr, haccepts, hname, hlevel⟩
    obtain ⟨hrsv, -, hop⟩ := (row_accepts_iff hr w).1 haccepts
    exact ⟨hrsv, hop.trans (row_of_mnemonic i r hr hname).1, hlevel.symm⟩

theorem row_eq_of_opc_eq : ∀ r ∈ opcodeRows, ∀ r' ∈ opcodeRows, opcOf r.value = opcOf r'.value → r = r' := by
  decide

/-- Settles O2, field by field; two pairs that accept one word have its opcode. -/
theorem legalWordsAreTheCommandWords : Obligations.LegalWordsAreTheCommandWords := by
  intro w
  refine ⟨decodes_iff, fun i => decode_eq_ok_iff_row, fun r hr r' hr' h h' => ?_⟩
  obtain ⟨-, -, hop⟩ := (row_accepts_iff hr w).1 h
  obtain ⟨-, -, hop'⟩ := (row_accepts_iff hr' w).1 h'
  exact row_eq_of_opc_eq r hr r' hr' (hop.symm.trans hop')

theorem decode_ne_ok_of_not_legal {w : Word} (h : legalWord w = false) (i : Instr) : decode w ≠ .ok i :=
  fun hw => Bool.false_ne_true (h.symm.trans (legalWord_of_decode hw))

/-- Settles O3: the two words are evaluated, the other four are not legal. -/
theorem workedEncodings : Obligations.WorkedEncodings := by
  have hrise : encode (.waitEdge true) = 0x00000103 := rfl
  have hfall : encode (.waitEdge false) = 0x00000003 := rfl
  exact ⟨hrise, hrise ▸ decode_encode _, hfall, hfall ▸ decode_encode _, decode_ne_ok_of_not_legal (by decide),
    decode_ne_ok_of_not_legal (by decide), decode_ne_ok_of_not_legal (by decide),
    decode_ne_ok_of_not_legal (by decide)⟩

end Sys2Proof.Machine
end

section
/-! Issue, the statements of a host program, and Finish (R91, R93, R94). -/

namespace Sys2Proof.Machine

/-- Settles O4, by whether the word is a command's. -/
theorem issueStartsOrRejects : Obligations.IssueStartsOrRejects := by
  intro s w hidle
  constructor
  case left =>
    intro i hw
    exact perform_write_cmd hw hidle
  case right =>
    intro hw
    rw [perform_write_idle (issue w) hidle rfl, issue_illegal hw]
    rfl

/-- WAITIDLE polls STATUS and stays the next statement while BUSY reads 1 (R91). -/
theorem programTurn_waitIdle {s : State} {rest : List HostStmt} (h : s.world.program = .waitIdle :: rest) :
    programTurn s = hostReceives (regRead 1 s)
      (if s.status.busy then s else { s with world.program := rest }) := by
  have hpoll : (regRead 1 s).getLsbD 0 = s.status.busy := statusWord_busy s.status
  simp only [programTurn, h, hpoll]
  split <;> rfl

/-- Settles O12, by the kinds of statement. -/
theorem hostProgramStatements : Obligations.HostProgramStatements := by
  intro s rest
  refine ⟨fun k v h => ?wr, fun k h => ?rd, fun i h => ?command, fun h hbusy => ?polls, fun h hidle => ?ends⟩
  case wr | command => simp only [perform, programTurn, h, hostAccess]
  case rd =>
    simp only [perform, programTurn, h, hostAccess]
    rfl
  case polls => rw [perform, programTurn_waitIdle h, hbusy]; rfl
  case ends => rw [perform, programTurn_waitIdle h, hidle]; rfl

/-- Settles O16: each form writes what R94 lists. -/
theorem finishEndsACommand : Obligations.FinishEndsACommand :=
  fun _ _ _ => ⟨rfl, rfl⟩

end Sys2Proof.Machine
end

section
/-! Micro-step V (R95, R180). -/

namespace Sys2Proof.Machine

theorem exec_at_v {s : State} (hpc : s.seq.uPC = .v) (i : Instr) :
    exec i s = .next ((verdictAtV i s).act (effectAtV i s)) := by
  have hmem : s.seq.uPC ∈ microProgram i := hpc ▸ v_mem_microProgram i
  rw [exec_eq, if_pos hmem, microStep]
  simp only [verdict, effect, hpc]

/-- Of all commands only INIT writes more than the latches at V. -/
theorem effectAtV_of_ne_init {i : Instr} (hi : i ≠ .init) (s : State) : effectAtV i s = latchLimits s := by
  rw [effectAtV, if_neg hi]; rfl

/-- V of a command that goes on as `v` says where its check `P` passes, and else fails (R95, R202). -/
theorem exec_checked_at_v (i : Instr) {s : State} {P : Prop} [Decidable P] {v : Verdict} (hpc : s.seq.uPC = .v)
    (hi : i ≠ .init) (hv : verdictAtV i s = if P then v else .fails .invalidConfig false) :
    exec i s = .next (if P then v.act (latchLimits s) else raise .invalidConfig false (latchLimits s)) := by
  rw [exec_at_v hpc, effectAtV_of_ne_init hi, hv]
  split <;> rfl

theorem exec_init_at_v {s : State} (hpc : s.seq.uPC = .v) :
    exec .init s = .next (if CfgOk s then finishOk (setInitOk true (latchLimits s))
      else raise .invalidConfig false (setInitOk false (latchLimits s))) := by
  rw [exec_at_v hpc, ← validateInit_eq]; rfl

/-- Settles O18, command by command; `r` is `latchLimits s`. -/
theorem validationOfEveryCommand : Obligations.ValidationOfEveryCommand := by
  intro s r hpc hr
  obtain rfl : r = latchLimits s := hr
  refine ⟨exec_init_at_v hpc, ?trigger, fun level => ?waitEdge, exec_at_v hpc .timerStart, ?timerStopRead,
    exec_at_v hpc .toCm, fun i hi => ?measure⟩
  case trigger => exact exec_checked_at_v .trigger hpc (by decide) rfl
  case waitEdge => exact exec_checked_at_v (.waitEdge level) hpc (by simp) rfl
  case timerStopRead => exact exec_checked_at_v .timerStopRead hpc (by decide) rfl
  case measure =>
    simp only [List.mem_cons, List.not_mem_nil, or_false] at hi
    obtain rfl | rfl := hi
    · exact exec_checked_at_v .measureUs hpc (by decide) rfl
    · exact exec_checked_at_v .measureCm hpc (by decide) rfl

end Sys2Proof.Machine
end

section
/-! The micro-steps of the trigger pulse as whole next states (R102 to R105). -/

namespace Sys2Proof.Machine

theorem pulse_label_mem {i : Instr} {l : Label} (hi : i ∈ [Instr.trigger, .measureUs, .measureCm])
    (hl : l ∈ [Label.t1, .t2, .t3, .t4]) : l ∈ microProgram i := by
  simp only [List.mem_cons, List.not_mem_nil, or_false] at hi
  obtain rfl | rfl | rfl := hi <;> decide +revert

section
variable {i : Instr} {s : State}

theorem exec_in_pulse (hi : i ∈ [Instr.trigger, .measureUs, .measureCm])
    (hpc : s.seq.uPC ∈ [Label.t1, .t2, .t3, .t4]) : exec i s = .next (microStep i s) :=
  exec_eq_next_iff.2 ⟨pulse_label_mem hi hpc, rfl⟩

theorem exec_at_t1 (hi : i ∈ [Instr.trigger, .measureUs, .measureCm]) (hpc : s.seq.uPC = .t1) :
    exec i s = .next { s with ext.trigLine := true, regs.pinsTrig := true, seq.uPC := .t2 } := by
  rw [exec_in_pulse hi (by simp [hpc])]
  simp only [microStep, verdict, effect, hpc]
  rfl

theorem exec_at_t2 (hi : i ∈ [Instr.trigger, .measureUs, .measureCm]) (hpc : s.seq.uPC = .t2) :
    exec i s = .next { s with ext.cyccnt := 0, seq.uPC := .t3 } := by
  rw [exec_in_pulse hi (by simp [hpc])]
  simp only [microStep, verdict, effect, hpc]
  rfl

theorem microStep_at_t3 (hpc : s.seq.uPC = .t3) : microStep i s = microT3 s := by
  rw [microT3_eq]
  simp only [microStep, verdict, effect, hpc]

theorem exec_at_t3_reached (hi : i ∈ [Instr.trigger, .measureUs, .measureCm]) (hpc : s.seq.uPC = .t3)
    (hn : s.seq.n.toNat ≤ s.ext.cyccnt.toNat) : exec i s = .next { s with seq.uPC := .t4 } := by
  rw [exec_in_pulse hi (by simp [hpc]), microStep_at_t3 hpc, microT3_reached hn]
  rfl

theorem exec_at_t3_waiting (hi : i ∈ [Instr.trigger, .measureUs, .measureCm]) (hpc : s.seq.uPC = .t3)
    (hn : s.ext.cyccnt.toNat < s.seq.n.toNat) : exec i s = .next s := by
  rw [exec_in_pulse hi (by simp [hpc]), microStep_at_t3 hpc, microT3_waiting (Nat.not_le.2 hn), setPc_self hpc]

theorem exec_trigger_at_t4 (hpc : s.seq.uPC = .t4) :
    exec .trigger s = .next (finishOk { s with ext.trigLine := false, regs.pinsTrig := false }) := by
  rw [exec_in_pulse (by decide) (by simp [hpc])]
  simp only [microStep, verdict, effect, hpc]
  rfl

theorem exec_measure_at_t4 (hi : i ∈ [Instr.measureUs, .measureCm]) (hpc : s.seq.uPC = .t4) :
    exec i s = .next { s with
      ext.trigLine := false, regs.pinsTrig := false, status.state := .awaitingRisingEdge
      seq.lvl := true, seq.uPC := .w1 } := by
  have hmeasure : isMeasure i = true := by
    simp only [List.mem_cons, List.not_mem_nil, or_false] at hi
    obtain rfl | rfl := hi <;> rfl
  rw [exec_in_pulse (List.mem_cons_of_mem _ hi) (by simp [hpc])]
  simp only [microStep, verdict, effect, hpc, hmeasure, if_true]
  rfl

end

/-- Settles O19, label by label. -/
theorem triggerPulseSteps : Obligations.TriggerPulseSteps := fun _ =>
  ⟨fun _ hi => ⟨exec_at_t1 hi, exec_at_t2 hi, exec_at_t3_reached hi, exec_at_t3_waiting hi⟩,
    fun hpc => ⟨exec_trigger_at_t4 hpc, fun _ hi => exec_measure_at_t4 hi hpc⟩⟩

end Sys2Proof.Machine
end

section
/-! What any action can do within the trigger pulse, and that the pulse counts its N cycles (R43, R104, R107). -/

namespace Sys2Proof.Machine

/-- Everything an action can do that leads from T1, T2, T3 or T4 to one of T2, T3 and T4. -/
inductive PulseTurn (s : State) (a : AgentAction) (t : State) : Prop
  | rises (core : a = .core) (source : s.seq.uPC = .t1) (target : t.seq.uPC = .t2)
  | restarts (core : a = .core) (source : s.seq.uPC = .t2) (target : t.seq.uPC = .t3) (count : t.ext.cyccnt = 0)
  | ends (core : a = .core) (source : s.seq.uPC = .t3) (target : t.seq.uPC = .t4) (reached : s.seq.n ≤ s.ext.cyccnt)
  | counts (stays : t.seq.uPC = s.seq.uPC) (count : t.ext.cyccnt = s.ext.cyccnt + BitVec.ofNat 32 (cycAdvance a))

theorem busy_of_label {s : State} {ls : List Label} (h : BlockInv s) (hs : s.seq.uPC ∈ ls) (hbot : .bot ∉ ls) :
    s.status.busy = true :=
  h.busy_iff.2 fun hpc => hbot (hpc ▸ hs)

theorem pulseTurn_of_microStep {i : Instr} {s : State} (hs : s.seq.uPC ∈ [Label.t1, .t2, .t3, .t4])
    (ht : (microStep i s).seq.uPC ∈ [Label.t2, .t3, .t4]) : PulseTurn s .core (microStep i s) := by
  have hcount := congrArg External.cyccnt (microStep_ext i s)
  simp only [List.mem_cons, List.not_mem_nil, or_false] at hs
  obtain hpc | hpc | hpc | hpc := hs
  · exact .rises rfl hpc (by simp only [microStep, verdict, hpc]; rfl)
  · exact .restarts rfl hpc (by simp only [microStep, verdict, hpc]; rfl) (by simpa [hpc] using hcount)
  · rw [microStep_at_t3 hpc]
    by_cases hn : s.seq.n ≤ s.ext.cyccnt
    · exact .ends rfl hpc (by rw [microT3_reached hn]; rfl) hn
    · rw [microT3_waiting hn, setPc_self hpc]
      exact .counts rfl (by simp [cycAdvance])
  · simp only [microStep, verdict, hpc] at ht
    split at ht <;> simp [Verdict.act] at ht

/-- Within the pulse an action keeps N, and moves the label and the cycle counter only as R102 to R104 and R68 say. -/
theorem pulseTurn_of_perform {a : AgentAction} {s t : State} (h : BlockInv s)
    (hs : s.seq.uPC ∈ [Label.t1, .t2, .t3, .t4]) (hp : perform a s = .next t)
    (ht : t.seq.uPC ∈ [Label.t2, .t3, .t4]) : t.seq.n = s.seq.n ∧ PulseTurn s a t := by
  have hbusy := busy_of_label h hs (by decide)
  by_cases hcore : a = .core
  · subst hcore
    obtain ⟨hidle, -⟩ | ⟨i, -, -, -, rfl⟩ := coreTurn_cases hp
    · rw [hbusy] at hidle; cases hidle
    · have hv : s.seq.uPC ≠ .v := fun hpc => by simp [hpc] at hs
      exact ⟨by rw [microStep_n, if_neg hv], pulseTurn_of_microStep hs ht⟩
  · have hruns := busy_of_label (turn_keeps_blockInv h (turn_of_perform hp)) ht (by decide)
    obtain ⟨hseq, hcount⟩ := other_turn_while_busy hcore hbusy hp hruns
    exact ⟨by rw [hseq], .counts (by rw [hseq]) hcount⟩

theorem StaysIn.start {P : State → Prop} {as : List AgentAction} {s : State} (h : StaysIn P as s) : P s := by
  cases as with
  | nil => exact h
  | cons a rest => exact h.1

/-- In the pulse the trigger line and PINS.TRIG are high (R43). -/
theorem BlockInv.trig_high {s : State} (h : BlockInv s) (hs : s.seq.uPC ∈ [Label.t2, .t3, .t4]) :
    s.ext.trigLine = true ∧ s.regs.pinsTrig = true := by
  have hline := h.trig_high_iff.2 hs
  exact ⟨hline, h.trig_mirrored.trans hline⟩

/-- A run that stays at T3 keeps N and the trigger line high, and the counter advances by what ENV advances it. -/
theorem runActions_at_t3 {as : List AgentAction} {s t : State} {n : Word} (h : BlockInv s) (hn : s.seq.n = n)
    (hstays : StaysIn (fun x => x.seq.uPC = .t3) as s) (hrun : runActions as s = .next t) :
    BlockInv t ∧ t.seq.uPC = .t3 ∧ t.seq.n = n ∧
    t.ext.cyccnt = s.ext.cyccnt + BitVec.ofNat 32 (as.map cycAdvance).sum ∧
    StaysIn (fun x => x.ext.trigLine = true ∧ x.regs.pinsTrig = true ∧ x.seq.n = n) as s := by
  have hpc := hstays.start
  obtain ⟨hline, hpin⟩ := h.trig_high (by simp [hpc])
  induction as generalizing s with
  | nil =>
    cases hrun
    exact ⟨h, hpc, hn, by simp, hline, hpin, hn⟩
  | cons a rest ih =>
    obtain ⟨-, s', hp, hrest⟩ := hstays
    have hpc' := hrest.start
    have h' := turn_keeps_blockInv h (turn_of_perform hp)
    obtain ⟨hkeeps, hturn⟩ := pulseTurn_of_perform h (by simp [hpc]) hp (by simp [hpc'])
    have hcount : s'.ext.cyccnt = s.ext.cyccnt + BitVec.ofNat 32 (cycAdvance a) := by
      cases hturn with
      | counts stays count => exact count
      | rises core source | restarts core source => rw [hpc] at source; cases source
      | ends core source target => rw [hpc'] at target; cases target
    rw [runActions_cons hp] at hrun
    obtain ⟨hline', hpin'⟩ := h'.trig_high (by simp [hpc'])
    obtain ⟨ht, htpc, htn, htcount, hhigh⟩ := ih h' (hkeeps.trans hn) hrest hrun hpc' hline' hpin'
    refine ⟨ht, htpc, htn, ?_, ⟨hline, hpin, hn⟩, s', hp, hhigh⟩
    rw [htcount, hcount, List.map_cons, List.sum_cons, BitVec.ofNat_add, BitVec.add_assoc]

/-- Settles O48: the counter is 0 after T2, then the sum of the advances, and the T3 that leaves has read at least N. -/
theorem pulseCountsAtLeastN : Obligations.PulseCountsAtLeastN := by
  intro s s1 t u as h hpc hcore hstays hrun hlast hu
  have hpc1 := hstays.start
  have h1 := turn_keeps_blockInv h (turn_of_perform hcore)
  obtain ⟨hn, hfirst⟩ := pulseTurn_of_perform h (by simp [hpc]) hcore (by simp [hpc1])
  have hzero : s1.ext.cyccnt = 0 := by
    cases hfirst with
    | restarts core source target count => exact count
    | rises core source | ends core source => rw [hpc] at source; cases source
    | counts stays => rw [hpc, hpc1] at stays; cases stays
  obtain ⟨ht, htpc, htn, hcount, hhigh⟩ := runActions_at_t3 h1 hn hstays hrun
  obtain ⟨-, hturn⟩ := pulseTurn_of_perform ht (by simp [htpc]) hlast (by simp [hu])
  have hreached : t.seq.n ≤ t.ext.cyccnt := by
    cases hturn with
    | ends core source target reached => exact reached
    | rises core source | restarts core source => rw [htpc] at source; cases source
    | counts stays => rw [htpc, hu] at stays; cases stays
  have hinvu := turn_keeps_blockInv ht (turn_of_perform hlast)
  refine ⟨?_, (h.trig_high (by simp [hpc])).1, hhigh, (hinvu.trig_high (by simp [hu])).1⟩
  simpa [htn, hcount, hzero, BitVec.le_def] using hreached

end Sys2Proof.Machine
end

section
/-! The trigger pulse in seconds, under ideal clocks (R50, R76, R108). -/

namespace Sys2Proof.Machine

/-- In the pulse N is ten microseconds' worth of whole clock cycles, of a clock of at least 1 MHz (R50, R52). -/
theorem BlockInv.pulse_limit {s : State} (h : BlockInv s) (hs : s.seq.uPC ∈ [Label.t1, .t2, .t3, .t4]) :
    1000000 ≤ s.regs.clkHz.toNat ∧ s.seq.n.toNat = s.regs.clkHz.toNat / 1000000 * 10 := by
  obtain ⟨i, -, hr⟩ := h.running (busy_of_label h hs (by decide))
  obtain ⟨hcfg, hn, -⟩ := hr.checked fun hpc => by simp [hpc] at hs
  have hclk : ClkOk s := by
    have hi := pulse_label_command hr.label hs
    simp only [List.mem_cons, List.not_mem_nil, or_false] at hi
    obtain rfl | rfl | rfl := hi
    · exact hcfg
    · exact hcfg.1
    · exact hcfg.1
  exact ⟨(clkOk_iff s).1 hclk, by rw [hn, toNat_triggerCycles hclk]⟩

/-- Where a run stands at step `m` of the pulse that began with T1 at step `a`: at T3 the counter is at most what ENV
has advanced it since, and at T4 that is at least N. -/
structure Pulsed (σ : Nat → AgentAction) (ρ : Nat → State) (a m : Nat) : Prop where
  inv : BlockInv (ρ m)
  limit : (ρ m).seq.n = (ρ a).seq.n
  at_t3 : (ρ m).seq.uPC = .t3 → (ρ m).ext.cyccnt.toNat ≤ ∑ k ∈ Finset.Ico (a + 1) m, cycAdvance (σ k)
  at_t4 : (ρ m).seq.uPC = .t4 → (ρ a).seq.n.toNat ≤ ∑ k ∈ Finset.Ico (a + 1) m, cycAdvance (σ k)

section
variable {σ : Nat → AgentAction} {ρ : Nat → State} {a b m : Nat}

theorem pulsed_after_t1 (hrun : IsRun σ ρ) (h : BlockInv (ρ a)) (hpc : (ρ a).seq.uPC = .t1)
    (hnext : (ρ (a + 1)).seq.uPC ∈ [Label.t2, .t3, .t4]) : Pulsed σ ρ a (a + 1) := by
  obtain ⟨hn, hturn⟩ := pulseTurn_of_perform h (by simp [hpc]) (hrun a) hnext
  have htarget : (ρ (a + 1)).seq.uPC = .t2 := by
    cases hturn with
    | rises core source target => exact target
    | restarts core source | ends core source => rw [hpc] at source; cases source
    | counts stays => rw [stays, hpc] at hnext; simp at hnext
  refine ⟨turn_keeps_blockInv h (turn_of_perform (hrun a)), hn, ?_, ?_⟩ <;> simp [htarget]

theorem Pulsed.next (h : Pulsed σ ρ a m) (hrun : IsRun σ ρ) (ham : a < m)
    (hs : (ρ m).seq.uPC ∈ [Label.t2, .t3, .t4]) (ht : (ρ (m + 1)).seq.uPC ∈ [Label.t2, .t3, .t4]) :
    Pulsed σ ρ a (m + 1) := by
  obtain ⟨hinv, hlimit, ht3, ht4⟩ := h
  have hsum : ∑ k ∈ Finset.Ico (a + 1) (m + 1), cycAdvance (σ k) =
      ∑ k ∈ Finset.Ico (a + 1) m, cycAdvance (σ k) + cycAdvance (σ m) := Finset.sum_Ico_succ_top ham _
  obtain ⟨hn, hturn⟩ := pulseTurn_of_perform hinv (List.mem_cons_of_mem _ hs) (hrun m) ht
  refine ⟨turn_keeps_blockInv hinv (turn_of_perform (hrun m)), hn.trans hlimit, ?_, ?_⟩ <;> rw [hsum]
  · intro hpc
    cases hturn with
    | rises core source target | ends core source target => rw [hpc] at target; cases target
    | restarts core source target count => simp [count]
    | counts stays count =>
      have hsofar := ht3 (stays.symm.trans hpc)
      rw [count, BitVec.toNat_add, BitVec.toNat_ofNat, Nat.add_mod_mod]
      exact (Nat.mod_le _ _).trans (Nat.add_le_add_right hsofar _)
  · intro hpc
    cases hturn with
    | rises core source target | restarts core source target => rw [hpc] at target; cases target
    | ends core source target reached =>
      have hsofar := ht3 source
      rw [hlimit] at reached
      exact (BitVec.le_def.1 reached).trans (hsofar.trans (Nat.le_add_right _ _))
    | counts stays count => exact (ht4 (stays.symm.trans hpc)).trans (Nat.le_add_right _ _)

/-- Between T1 and T4 of one command ENV advances the counter by at least N. -/
theorem limit_le_sum_of_pulse (hrun : IsRun σ ρ) (h : BlockInv (ρ a)) (hab : a < b) (ha : (ρ a).seq.uPC = .t1)
    (hb : (ρ b).seq.uPC = .t4) (hpulse : ∀ n, a < n → n ≤ b → (ρ n).seq.uPC ∈ [Label.t2, .t3, .t4]) :
    (ρ a).seq.n.toNat ≤ ∑ n ∈ Finset.Ioc a b, cycAdvance (σ n) := by
  have hpulsed (m : Nat) (ham : a + 1 ≤ m) : m ≤ b → Pulsed σ ρ a m := by
    induction m, ham using Nat.le_induction with
    | base => exact fun hle => pulsed_after_t1 hrun h ha (hpulse _ (Nat.lt_succ_self a) hle)
    | succ m ham ih => exact fun hle =>
        (ih (by omega)).next hrun ham (hpulse m ham (by omega)) (hpulse (m + 1) (by omega) hle)
  have hsubset : Finset.Ico (a + 1) b ⊆ Finset.Ioc a b := fun k hk => by
    simp only [Finset.mem_Ico, Finset.mem_Ioc] at hk ⊢; omega
  exact ((hpulsed b hab le_rfl).at_t4 hb).trans (Finset.sum_le_sum_of_subset hsubset)

end

/-- A counter of rate `f` that advances by at least `n` takes more than `(n − 1) / f` seconds. -/
theorem lt_elapsed_of_floor_sub {f x y : ℝ} {n : Nat} (hf : 0 < f) (h : (n : ℤ) ≤ ⌊f * y⌋ - ⌊f * x⌋) :
    ((n : ℝ) - 1) / f < y - x := by
  have hreal : (n : ℝ) ≤ (⌊f * y⌋ : ℝ) - (⌊f * x⌋ : ℝ) := by exact_mod_cast h
  have hlow := Int.lt_floor_add_one (f * x)
  have hhigh := Int.floor_le (f * y)
  rw [div_lt_iff₀ hf]
  linarith

/-- Ten whole cycles for each whole microsecond's worth of a clock last 10 µs, or less by under ten cycles (R50). -/
theorem seconds_of_whole_microseconds {clk n : Nat} (hclk : 1000000 ≤ clk) (hn : n = clk / 1000000 * 10) :
    10 / 1000000 - 10 / (clk : ℝ) < (n : ℝ) / clk ∧ (n : ℝ) / clk ≤ 10 / 1000000 := by
  have hpos : (0 : ℝ) < clk := by exact_mod_cast (show 0 < clk by omega)
  have hlow : (10 * clk : ℝ) < 1000000 * n + 10000000 := by
    exact_mod_cast (show 10 * clk < 1000000 * n + 10000000 by omega)
  have hhigh : (1000000 * n : ℝ) ≤ 10 * clk := by exact_mod_cast (show 1000000 * n ≤ 10 * clk by omega)
  constructor
  · rw [sub_lt_iff_lt_add, ← add_div, lt_div_iff₀ hpos]
    linarith
  · rw [div_le_iff₀ hpos]
    linarith

/-- Settles O53: between T1 and T4 the counter advances by at least N, which takes an ideal clock that long. -/
theorem pulseLastsItsSeconds : Obligations.PulseLastsItsSeconds := by
  intro f g σ ρ τ a b hrun hclocks h hclk hab _ ha _ hb hpulse
  subst hclk
  obtain ⟨hmega, hn⟩ := h.pulse_limit (by simp [ha])
  have hpos : (0 : ℝ) < (ρ a).regs.clkHz.toNat := by exact_mod_cast (show 0 < (ρ a).regs.clkHz.toNat by omega)
  have hadvance := limit_le_sum_of_pulse hrun h hab ha hb hpulse
  refine ⟨lt_elapsed_of_floor_sub hpos ?_, seconds_of_whole_microseconds hmega hn⟩
  rw [← hclocks.cyc a b hab.le]
  exact_mod_cast hadvance

end Sys2Proof.Machine
end

section
/-! The trigger pulse under the script E1, one counter cycle before each CORE step (R106, R259). -/

namespace Sys2Proof.Machine

/-- One round of E1: the counter advances by 1, then the running command takes its step. -/
theorem runActions_scriptE1_succ {i : Instr} {s t : State} (hbusy : s.status.busy = true)
    (hi : runningCommand s = some i) (hexec : exec i { s with ext.cyccnt := s.ext.cyccnt + 1 } = .next t) (k : Nat) :
    runActions (scriptE1 (k + 1)) s = runActions (scriptE1 k) t := by
  have henv : perform (.env (.cyc 1)) s = .next { s with ext.cyccnt := s.ext.cyccnt + 1 } := rfl
  have hcore : perform .core { s with ext.cyccnt := s.ext.cyccnt + 1 } = .next t :=
    (coreTurn_busy (s := { s with ext.cyccnt := s.ext.cyccnt + 1 }) hbusy hi).trans hexec
  rw [scriptE1, runActions_cons henv, runActions_cons hcore]

/-- `s` in the pulse: the line high, at a label with a count. -/
def inPulse (l : Label) (count : Word) (s : State) : State :=
  { s with ext.trigLine := true, regs.pinsTrig := true, seq.uPC := l, ext.cyccnt := count }

section
variable {i : Instr} {s : State} (hbusy : s.status.busy = true) (hi : runningCommand s = some i)
  (hpulse : i ∈ [Instr.trigger, .measureUs, .measureCm])
include hbusy hi hpulse

theorem scriptE1_at_t1 (hpc : s.seq.uPC = .t1) (k : Nat) :
    runActions (scriptE1 (k + 1)) s = runActions (scriptE1 k) (inPulse .t2 (s.ext.cyccnt + 1) s) :=
  runActions_scriptE1_succ hbusy hi (exec_at_t1 hpulse hpc) k

theorem scriptE1_at_t2 (count : Word) (k : Nat) :
    runActions (scriptE1 (k + 1)) (inPulse .t2 count s) = runActions (scriptE1 k) (inPulse .t3 0 s) :=
  runActions_scriptE1_succ (s := inPulse .t2 count s) hbusy hi (exec_at_t2 hpulse rfl) k

/-- `j` samples below N leave the command at T3. -/
theorem scriptE1_waits_at_t3 {j : Nat} (hj : j < s.seq.n.toNat) (k : Nat) :
    runActions (scriptE1 (k + j)) (inPulse .t3 0 s) = runActions (scriptE1 k) (inPulse .t3 (BitVec.ofNat 32 j) s) := by
  induction j generalizing k with
  | zero => rfl
  | succ j ih =>
    have hbelow : (BitVec.ofNat 32 j + 1).toNat < s.seq.n.toNat := by bv_omega
    have hround : runActions (scriptE1 (k + 1)) (inPulse .t3 (BitVec.ofNat 32 j) s) =
        runActions (scriptE1 k) (inPulse .t3 (BitVec.ofNat 32 j + 1) s) :=
      runActions_scriptE1_succ (s := inPulse .t3 (BitVec.ofNat 32 j) s) hbusy hi
        (exec_at_t3_waiting hpulse rfl hbelow) k
    rw [show k + (j + 1) = k + 1 + j by omega, ih (by omega), hround, BitVec.ofNat_add]
    rfl

/-- From T2 the command is at T3 after `j + 1` rounds, as long as fewer than N cycles have passed. -/
theorem scriptE1_from_t2 (count : Word) {j : Nat} (hj : j < s.seq.n.toNat) (k : Nat) :
    runActions (scriptE1 (k + j + 1)) (inPulse .t2 count s) =
      runActions (scriptE1 k) (inPulse .t3 (BitVec.ofNat 32 j) s) := by
  rw [scriptE1_at_t2 hbusy hi hpulse, scriptE1_waits_at_t3 hbusy hi hpulse hj]

/-- From T2 the command is at T4 after N + 1 rounds, with N on the counter. -/
theorem scriptE1_from_t2_to_t4 (count : Word) (hn : 1 ≤ s.seq.n.toNat) (k : Nat) :
    runActions (scriptE1 (k + s.seq.n.toNat + 1)) (inPulse .t2 count s) =
      runActions (scriptE1 k) (inPulse .t4 s.seq.n s) := by
  have hlast : BitVec.ofNat 32 (s.seq.n.toNat - 1) + 1 = s.seq.n := by bv_omega
  have hround : runActions (scriptE1 (k + 1)) (inPulse .t3 (BitVec.ofNat 32 (s.seq.n.toNat - 1)) s) =
      runActions (scriptE1 k) (inPulse .t4 (BitVec.ofNat 32 (s.seq.n.toNat - 1) + 1) s) :=
    runActions_scriptE1_succ (s := inPulse .t3 (BitVec.ofNat 32 (s.seq.n.toNat - 1)) s) hbusy hi
      (exec_at_t3_reached hpulse rfl (congrArg BitVec.toNat hlast).ge) k
  rw [show k + s.seq.n.toNat + 1 = k + 1 + (s.seq.n.toNat - 1) + 1 by omega,
    scriptE1_from_t2 hbusy hi hpulse count (by omega), hround, hlast]

end

/-- TRIGGER issued to `s` and validated: at T1 after its first round of E1. -/
def triggerAtT1 (s : State) : State :=
  { s with
    regs.cmd := 0x00000002
    seq.uPC := .t1, seq.op := 0x02, seq.lvl := false, seq.n := triggerCycles s, seq.toCyc := timeoutCycles s
    status.busy := true, status.state := .triggering, status.err := .noError, status.stage := false
    ext.cyccnt := s.ext.cyccnt + 1 }

theorem run_trigger_to_t1 {s : State} (hidle : s.status.busy = false) (hclk : ClkOk s) (k : Nat) :
    runActions (.host (.regWrite 0 0x00000002) :: scriptE1 (k + 1)) s = runActions (scriptE1 k) (triggerAtT1 s) := by
  have hv := exec_checked_at_v (P := ClkOk s) .trigger
    (s := { startWord 0x00000002 s with ext.cyccnt := s.ext.cyccnt + 1 }) rfl (by decide) rfl
  rw [if_pos hclk] at hv
  rw [runActions_cons (perform_write_cmd (i := .trigger) rfl hidle)]
  exact runActions_scriptE1_succ (s := startWord 0x00000002 s) rfl rfl hv k

theorem run_trigger_to_t2 {s : State} (hidle : s.status.busy = false) (hclk : ClkOk s) (k : Nat) :
    runActions (.host (.regWrite 0 0x00000002) :: scriptE1 (k + 1 + 1)) s =
      runActions (scriptE1 k) (inPulse .t2 (s.ext.cyccnt + 1 + 1) (triggerAtT1 s)) := by
  rw [run_trigger_to_t1 hidle hclk]
  exact scriptE1_at_t1 (s := triggerAtT1 s) rfl rfl (List.mem_cons_self ..) rfl k

theorem run_trigger_to_t3 {s : State} {j : Nat} (hidle : s.status.busy = false) (hclk : ClkOk s)
    (hj : j < (triggerCycles s).toNat) (k : Nat) :
    runActions (.host (.regWrite 0 0x00000002) :: scriptE1 (k + j + 1 + 1 + 1)) s =
      runActions (scriptE1 k) (inPulse .t3 (BitVec.ofNat 32 j) (triggerAtT1 s)) := by
  rw [run_trigger_to_t2 hidle hclk]
  exact scriptE1_from_t2 (s := triggerAtT1 s) rfl rfl (List.mem_cons_self ..) _ hj k

theorem run_trigger_to_t4 {s : State} (hidle : s.status.busy = false) (hclk : ClkOk s)
    (hn : 1 ≤ (triggerCycles s).toNat) (k : Nat) :
    runActions (.host (.regWrite 0 0x00000002) :: scriptE1 (k + (triggerCycles s).toNat + 1 + 1 + 1)) s =
      runActions (scriptE1 k) (inPulse .t4 (triggerCycles s) (triggerAtT1 s)) := by
  rw [run_trigger_to_t2 hidle hclk]
  exact scriptE1_from_t2_to_t4 (s := triggerAtT1 s) rfl rfl (List.mem_cons_self ..) _ hn k

/-- Settles O43: V and T1 take a round each, T2 with the wait of N cycles takes N + 1, and T4 one. -/
theorem triggerTakesNPlusFourSteps : Obligations.TriggerTakesNPlusFourSteps := by
  intro s n hidle hn hpos
  have hclk : ClkOk s := (clkOk_iff s).2 (by omega)
  obtain rfl : n = (triggerCycles s).toNat := hn.trans (toNat_triggerCycles hclk).symm
  constructor
  · intro k hk hlt
    obtain rfl | ⟨j, hj, rfl⟩ | rfl : k = 0 + 1 + 1 ∨
        (∃ j, j < (triggerCycles s).toNat ∧ k = 0 + j + 1 + 1 + 1) ∨
        k = 0 + (triggerCycles s).toNat + 1 + 1 + 1 := by
      by_cases hwaits : 3 ≤ k ∧ k < (triggerCycles s).toNat + 3
      · exact .inr (.inl ⟨k - 3, by omega, by omega⟩)
      · omega
    · exact ⟨_, run_trigger_to_t2 hidle hclk 0, rfl, rfl⟩
    · exact ⟨_, run_trigger_to_t3 hidle hclk hj 0, rfl, rfl⟩
    · exact ⟨_, run_trigger_to_t4 hidle hclk hpos 0, rfl, rfl⟩
  · have hlast := runActions_scriptE1_succ (s := inPulse .t4 (triggerCycles s) (triggerAtT1 s)) rfl rfl
      (exec_trigger_at_t4 rfl) 0
    rw [show (triggerCycles s).toNat + 4 = 0 + 1 + (triggerCycles s).toNat + 1 + 1 + 1 by omega,
      run_trigger_to_t4 hidle hclk hpos, hlast, BitVec.ofNat_add, BitVec.ofNat_toNat, BitVec.setWidth_eq]
    rfl

end Sys2Proof.Machine
end

section
/-! The micro-steps of the echo wait as whole next states (R122 to R124). -/

namespace Sys2Proof.Machine

/-- The commands that wait for the echo line: WAIT_EDGE of a level, and the two MEASURE commands (R125, R182). -/
abbrev waiters (level : Bool) : List Instr := [.waitEdge level, .measureUs, .measureCm]

section
variable {i : Instr} {s : State} {level : Bool}

/-- The two MEASURE commands run one micro-program (R182, R183). -/
theorem exec_of_measure (hi : i ∈ [Instr.measureUs, .measureCm]) : ∃ publish, exec i s = measureStep publish s := by
  simp only [List.mem_cons, List.not_mem_nil, or_false] at hi
  obtain rfl | rfl := hi
  · exact ⟨publishPulse, rfl⟩
  · exact ⟨publishDistance, rfl⟩

theorem exec_measure_at_w2 (hi : i ∈ [Instr.measureUs, .measureCm]) (hpc : s.seq.uPC = .w2) :
    exec i s = .next (microW2 s.seq.lvl edgeSeen s) := by
  obtain ⟨publish, h⟩ := exec_of_measure (s := s) hi
  rw [h]
  simp only [measureStep, hpc]

theorem exec_measure_at_w3 (hi : i ∈ [Instr.measureUs, .measureCm]) (hpc : s.seq.uPC = .w3) :
    exec i s = .next (microW3 edgeLate s) := by
  obtain ⟨publish, h⟩ := exec_of_measure (s := s) hi
  rw [h]
  simp only [measureStep, hpc]

theorem exec_waitEdge_at_w2 (hpc : s.seq.uPC = .w2) :
    exec (.waitEdge level) s = .next (microW2 level finishOk s) := by
  simp only [exec, execWaitEdge, hpc]

theorem exec_waitEdge_at_w3 (hpc : s.seq.uPC = .w3) :
    exec (.waitEdge level) s = .next (microW3 (raise .timeout (!level)) s) := by
  simp only [exec, execWaitEdge, hpc]

theorem exec_at_w1 (hi : i ∈ waiters level) (hpc : s.seq.uPC = .w1) :
    exec i s = .next { s with seq.c0 := s.ext.cyccnt, seq.uPC := .w2 } := by
  have hmem : s.seq.uPC ∈ microProgram i := by
    simp only [List.mem_cons, List.not_mem_nil, or_false] at hi
    rw [hpc]
    obtain rfl | rfl | rfl := hi <;> simp [microProgram]
  rw [exec_eq, if_pos hmem]
  simp only [microStep, verdict, effect, hpc]
  rfl

/-- WAIT_EDGE ends at a sample of its level (R123). -/
theorem exec_waitEdge_at_w2_hit (hpc : s.seq.uPC = .w2) (hline : s.ext.echoLine = level) :
    exec (.waitEdge level) s = .next (finishOk { s with regs.echoSeen := s.ext.echoLine }) := by
  rw [exec_waitEdge_at_w2 hpc, microW2_hit _ hline]
  rfl

theorem exec_waitEdge_at_w2_miss (hpc : s.seq.uPC = .w2) (hline : s.ext.echoLine ≠ level) :
    exec (.waitEdge level) s = .next { s with regs.echoSeen := s.ext.echoLine, seq.uPC := .w3 } := by
  rw [exec_waitEdge_at_w2 hpc, microW2_miss _ hline]
  rfl

/-- A MEASURE command goes on from a sample of its level to S1, or to P1 in the falling wait (R123). -/
theorem exec_measure_at_w2_hit (hi : i ∈ [Instr.measureUs, .measureCm]) (hpc : s.seq.uPC = .w2)
    (hline : s.ext.echoLine = s.seq.lvl) :
    exec i s = .next (if s.seq.lvl
      then { s with regs.echoSeen := s.ext.echoLine, status.state := .measuring, seq.uPC := .s1 }
      else { s with regs.echoSeen := s.ext.echoLine, seq.uPC := .p1 }) := by
  rw [exec_measure_at_w2 hi hpc, microW2_hit _ hline]
  rfl

theorem exec_measure_at_w2_miss (hi : i ∈ [Instr.measureUs, .measureCm]) (hpc : s.seq.uPC = .w2)
    (hline : s.ext.echoLine ≠ s.seq.lvl) :
    exec i s = .next { s with regs.echoSeen := s.ext.echoLine, seq.uPC := .w3 } := by
  rw [exec_measure_at_w2 hi hpc, microW2_miss _ hline]
  rfl

/-- A sample at the other level leads every waiting command to W3 (R123). -/
theorem exec_at_w2_miss (hi : i ∈ waiters s.seq.lvl) (hpc : s.seq.uPC = .w2) (hline : s.ext.echoLine ≠ s.seq.lvl) :
    exec i s = .next { s with regs.echoSeen := s.ext.echoLine, seq.uPC := .w3 } := by
  obtain rfl | hi := List.mem_cons.1 hi
  · exact exec_waitEdge_at_w2_miss hpc hline
  · exact exec_measure_at_w2_miss hi hpc hline

theorem exec_waitEdge_at_w3_late (hpc : s.seq.uPC = .w3)
    (hreached : s.seq.toCyc.toNat ≤ (s.ext.cyccnt - s.seq.c0).toNat) :
    exec (.waitEdge level) s = .next (raise .timeout (!level) s) := by
  rw [exec_waitEdge_at_w3 hpc, microW3_late _ hreached]

/-- A MEASURE command at the bound fails in the rising wait, and goes on to X1 in the falling one (R124). -/
theorem exec_measure_at_w3_late (hi : i ∈ [Instr.measureUs, .measureCm]) (hpc : s.seq.uPC = .w3)
    (hreached : s.seq.toCyc.toNat ≤ (s.ext.cyccnt - s.seq.c0).toNat) :
    exec i s = .next (if s.seq.lvl then raise .timeout false s else { s with seq.uPC := .x1 }) := by
  rw [exec_measure_at_w3 hi hpc, microW3_late _ hreached]
  rfl

theorem exec_at_w3_early (hi : i ∈ waiters level) (hpc : s.seq.uPC = .w3)
    (hbelow : (s.ext.cyccnt - s.seq.c0).toNat < s.seq.toCyc.toNat) :
    exec i s = .next { s with seq.uPC := .w2 } := by
  have hnot : ¬ s.seq.toCyc ≤ s.ext.cyccnt - s.seq.c0 := Nat.not_le.2 hbelow
  obtain rfl | hi := List.mem_cons.1 hi
  · rw [exec_waitEdge_at_w3 hpc, microW3_early _ hnot]
    rfl
  · rw [exec_measure_at_w3 hi hpc, microW3_early _ hnot]
    rfl

end

/-- Settles O20, label by label; at W2 a MEASURE command's sample either hits or misses its level. -/
theorem echoWaitSteps : Obligations.EchoWaitSteps := by
  intro s level
  refine ⟨fun hpc i hi => exec_at_w1 hi hpc, fun hpc => ⟨exec_waitEdge_at_w2_hit hpc, exec_waitEdge_at_w2_miss hpc,
    fun i hi => ?_⟩, fun hpc => ⟨fun hreached => ⟨exec_waitEdge_at_w3_late hpc hreached,
      fun i hi => exec_measure_at_w3_late hi hpc hreached⟩, fun hbelow i hi => exec_at_w3_early hi hpc hbelow⟩⟩
  split
  next hline => exact exec_measure_at_w2_hit hi hpc hline
  next hline => exact exec_measure_at_w2_miss hi hpc hline

end Sys2Proof.Machine
end

section
/-! What any action can do within an echo wait, and that a wait counts the counter's advances (R122 to R124, R127). -/

namespace Sys2Proof.Machine

/-- Everything CORE's step at W1, W2 or W3 can do; STAGE of a TIMEOUT names the level (R122 to R124). -/
inductive WaitStep (s t : State) : Prop
  | begins (pc : s.seq.uPC = .w1) (eq : t = { s with seq.c0 := s.ext.cyccnt, seq.uPC := .w2 })
  | misses (pc : s.seq.uPC = .w2) (other : s.ext.echoLine ≠ s.seq.lvl)
      (eq : t = { s with regs.echoSeen := s.ext.echoLine, seq.uPC := .w3 })
  | hits (pc : s.seq.uPC = .w2) (left : t.seq.uPC ∉ [Label.w2, .w3])
  | early (pc : s.seq.uPC = .w3) (eq : t = { s with seq.uPC := .w2 })
  | late (pc : s.seq.uPC = .w3) (reached : s.seq.toCyc.toNat ≤ (s.ext.cyccnt - s.seq.c0).toNat)
      (ended : t = raise .timeout (!s.seq.lvl) s ∨ s.seq.lvl = false ∧ t = { s with seq.uPC := .x1 })

section
variable {i : Instr} {s t : State}

theorem waitStep_at_w2 (hi : i ∈ waiters s.seq.lvl) (hpc : s.seq.uPC = .w2) (h : exec i s = .next t) :
    WaitStep s t := by
  by_cases hline : s.ext.echoLine = s.seq.lvl
  · obtain rfl | hi := List.mem_cons.1 hi
    · cases (exec_waitEdge_at_w2_hit hpc hline).symm.trans h
      exact .hits hpc (by simp)
    · cases (exec_measure_at_w2_hit hi hpc hline).symm.trans h
      exact .hits hpc (by split <;> simp)
  · cases (exec_at_w2_miss hi hpc hline).symm.trans h
    exact .misses hpc hline rfl

theorem waitStep_at_w3 (hi : i ∈ waiters s.seq.lvl) (hpc : s.seq.uPC = .w3) (h : exec i s = .next t) :
    WaitStep s t := by
  obtain hbelow | hreached := Nat.lt_or_ge (s.ext.cyccnt - s.seq.c0).toNat s.seq.toCyc.toNat
  · cases (exec_at_w3_early hi hpc hbelow).symm.trans h
    exact .early hpc rfl
  · refine .late hpc hreached ?_
    obtain rfl | hi := List.mem_cons.1 hi
    · cases (exec_waitEdge_at_w3_late hpc hreached).symm.trans h
      exact .inl rfl
    · cases (exec_measure_at_w3_late hi hpc hreached).symm.trans h
      cases hlvl : s.seq.lvl
      · exact .inr ⟨rfl, rfl⟩
      · exact .inl rfl

/-- The command of a wait waits for the latched level. -/
theorem mem_waiters (hi : runningCommand s = some i) (hlabel : s.seq.uPC ∈ microProgram i)
    (hs : s.seq.uPC ∈ [Label.w1, .w2, .w3]) : i ∈ waiters s.seq.lvl := by
  have hcommand := wait_label_command hlabel hs
  simp only [List.mem_cons, List.not_mem_nil, or_false] at hcommand ⊢
  obtain rfl | rfl | rfl | rfl := hcommand
  · exact .inl (by rw [lvl_of_runningCommand hi])
  · exact .inl (by rw [lvl_of_runningCommand hi])
  · exact .inr (.inl rfl)
  · exact .inr (.inr rfl)

theorem waitStep_of_core (h : BlockInv s) (hs : s.seq.uPC ∈ [Label.w1, .w2, .w3]) (hp : perform .core s = .next t) :
    WaitStep s t := by
  have hbusy := busy_of_label h hs (by decide)
  obtain ⟨i, hi, hr⟩ := h.running hbusy
  have hexec : exec i s = .next t := (coreTurn_busy hbusy hi).symm.trans hp
  have hwaits := mem_waiters hi hr.label hs
  simp only [List.mem_cons, List.not_mem_nil, or_false] at hs
  obtain hpc | hpc | hpc := hs
  · cases (exec_at_w1 hwaits hpc).symm.trans hexec
    exact .begins hpc rfl
  · exact waitStep_at_w2 hwaits hpc hexec
  · exact waitStep_at_w3 hwaits hpc hexec

/-- While a command runs, no action of another agent writes a register (R68, R73). -/
theorem other_turn_keeps_regs {a : AgentAction} (hcore : a ≠ .core) (hbusy : s.status.busy = true)
    (h : perform a s = .next t) (hruns : t.status.busy = true) : t.regs = s.regs := by
  cases a with
  | core => exact absurd rfl hcore
  | env e => cases h; exact envStep_regs e s
  | host x => exact (hostAccess_undisturbed hbusy h).regs
  | program => exact (hostTurn_undisturbed hbusy (.inl rfl) h).regs
  | reset => cases h; cases hruns

end

/-- Where a wait that began at `s` stands after the counter has advanced by `count`: the latches are those of `s`, the
difference that W3 reads is the advance, and at W3 the last sample was at the other level. -/
structure Waited (s : State) (count : Nat) (t : State) : Prop where
  inv : BlockInv t
  toCyc : t.seq.toCyc = s.seq.toCyc
  lvl : t.seq.lvl = s.seq.lvl
  elapsed : t.ext.cyccnt - t.seq.c0 = BitVec.ofNat 32 count
  sampled : t.seq.uPC = .w3 → t.regs.echoSeen ≠ s.seq.lvl

section
variable {a : AgentAction} {s t u : State} {count : Nat}

theorem waited_after_w1 (h : BlockInv s) (hpc : s.seq.uPC = .w1) (hp : perform .core s = .next t) : Waited s 0 t := by
  have hinv := turn_keeps_blockInv h (turn_of_perform hp)
  cases waitStep_of_core h (by simp [hpc]) hp with
  | begins pc eq => subst eq; exact ⟨hinv, rfl, rfl, BitVec.sub_self _, by simp⟩
  | misses pc | hits pc | early pc | late pc => rw [hpc] at pc; cases pc

theorem Waited.core (h : Waited s count t) (ht : t.seq.uPC ∈ [Label.w2, .w3]) (hp : perform .core t = .next u)
    (hu : u.seq.uPC ∈ [Label.w2, .w3]) : Waited s count u := by
  obtain ⟨hinv, htoCyc, hlvl, helapsed, -⟩ := h
  have hinv' := turn_keeps_blockInv hinv (turn_of_perform hp)
  cases waitStep_of_core hinv (List.mem_cons_of_mem _ ht) hp with
  | begins pc => simp [pc] at ht
  | misses pc other eq => subst eq; exact ⟨hinv', htoCyc, hlvl, helapsed, fun _ => hlvl ▸ other⟩
  | hits pc left => exact absurd hu left
  | early pc eq => subst eq; exact ⟨hinv', htoCyc, hlvl, helapsed, by simp⟩
  | late pc reached ended => obtain rfl | ⟨-, rfl⟩ := ended <;> simp at hu

/-- Every action that stays in the wait adds its advance of the counter. -/
theorem Waited.next (h : Waited s count t) (ht : t.seq.uPC ∈ [Label.w2, .w3]) (hp : perform a t = .next u)
    (hu : u.seq.uPC ∈ [Label.w2, .w3]) : Waited s (count + cycAdvance a) u := by
  by_cases hcore : a = .core
  · subst hcore
    exact h.core ht hp hu
  · have hinv := turn_keeps_blockInv h.inv (turn_of_perform hp)
    have hbusy := busy_of_label h.inv ht (by decide)
    have hruns := busy_of_label hinv hu (by decide)
    obtain ⟨hseq, hcount⟩ := other_turn_while_busy hcore hbusy hp hruns
    have hregs := other_turn_keeps_regs hcore hbusy hp hruns
    refine ⟨hinv, hseq ▸ h.toCyc, hseq ▸ h.lvl, ?_, hseq ▸ hregs ▸ h.sampled⟩
    calc u.ext.cyccnt - u.seq.c0
        = t.ext.cyccnt - t.seq.c0 + BitVec.ofNat 32 (cycAdvance a) := by rw [hcount, hseq]; exact BitVec.add_sub_comm
      _ = BitVec.ofNat 32 (count + cycAdvance a) := by rw [h.elapsed, BitVec.ofNat_add]

theorem Waited.run {as : List AgentAction} (h : Waited s count t)
    (hstays : StaysIn (fun x => x.seq.uPC ∈ [Label.w2, .w3]) as t) (hrun : runActions as t = .next u) :
    Waited s (count + (as.map cycAdvance).sum) u := by
  induction as generalizing t count with
  | nil => cases hrun; exact h
  | cons a rest ih =>
    obtain ⟨ht, t', hp, hrest⟩ := hstays
    rw [runActions_cons hp] at hrun
    rw [List.map_cons, List.sum_cons, ← Nat.add_assoc]
    exact ih (h.next ht hp hrest.start) hrest hrun

/-- A W3 that finds the bound reached comes after at least TO_CYC advances, modulo 2^32. -/
theorem Waited.toCyc_le (h : Waited s count t) (hreached : t.seq.toCyc.toNat ≤ (t.ext.cyccnt - t.seq.c0).toNat) :
    s.seq.toCyc.toNat ≤ count % 2 ^ 32 := by
  rwa [h.toCyc, h.elapsed, BitVec.toNat_ofNat] at hreached

end

/-- Settles O49: the run of the wait keeps `Waited`, and the W3 that leaves it has found the bound reached. -/
theorem timedOutWaitHasWaitedItsBound : Obligations.TimedOutWaitHasWaitedItsBound := by
  intro s s1 t u as h hpc hcore hstays hrun ht hlast hu
  have hwaited := (waited_after_w1 h hpc hcore).run hstays hrun
  rw [Nat.zero_add] at hwaited
  cases waitStep_of_core hwaited.inv (by simp [ht]) hlast with
  | begins pc | misses pc | hits pc => rw [ht] at pc; cases pc
  | early pc eq => subst eq; simp at hu
  | late pc reached ended =>
    refine ⟨hwaited.toCyc_le reached, hwaited.sampled ht, ?_⟩
    rw [← hwaited.lvl]
    obtain rfl | ⟨hfalling, rfl⟩ := ended
    · simp
    · have hbusy := busy_of_label (ls := [.w3]) hwaited.inv (by simp [ht]) (by decide)
      simp [hbusy, hfalling]

end Sys2Proof.Machine
end

section
/-! A timed-out wait in seconds, under ideal clocks (R51, R76, R127). -/

namespace Sys2Proof.Machine

/-- In a wait TO_CYC is TIMEOUT_US microseconds' worth of whole cycles, of a clock of at least 1 MHz (R51, R52). -/
theorem BlockInv.wait_limit {s : State} (h : BlockInv s) (hs : s.seq.uPC ∈ [Label.w1, .w2, .w3]) :
    1000000 ≤ s.regs.clkHz.toNat ∧
    s.seq.toCyc.toNat = s.regs.timeoutUs.toNat * (s.regs.clkHz.toNat / 1000000) := by
  obtain ⟨i, hi, hr⟩ := h.running (busy_of_label h hs (by decide))
  obtain ⟨hcfg, -, htoCyc⟩ := hr.checked fun hpc => by simp [hpc] at hs
  have hto : ToOk s := by
    have hwaits := mem_waiters hi hr.label hs
    simp only [List.mem_cons, List.not_mem_nil, or_false] at hwaits
    obtain rfl | rfl | rfl := hwaits
    · exact hcfg
    all_goals
      obtain ⟨-, -, hto⟩ := hcfg
      exact hto
  exact ⟨(clkOk_iff s).1 hto.1, by rw [htoCyc, toNat_timeoutCycles hto]⟩

/-- Between W1 and a W3 at the bound of one wait ENV advances the counter by at least TO_CYC. -/
theorem toCyc_le_sum_of_wait {σ : Nat → AgentAction} {ρ : Nat → State} {a b : Nat} (hrun : IsRun σ ρ)
    (h : BlockInv (ρ a)) (hab : a < b) (hcore : σ a = .core) (ha : (ρ a).seq.uPC = .w1)
    (hwait : ∀ n, a < n → n ≤ b → (ρ n).seq.uPC ∈ [Label.w2, .w3])
    (hreached : (ρ b).seq.toCyc.toNat ≤ ((ρ b).ext.cyccnt - (ρ b).seq.c0).toNat) :
    (ρ a).seq.toCyc.toNat ≤ ∑ n ∈ Finset.Ioc a b, cycAdvance (σ n) := by
  have hwaited (m : Nat) (ham : a + 1 ≤ m) :
      m ≤ b → Waited (ρ a) (∑ k ∈ Finset.Ico (a + 1) m, cycAdvance (σ k)) (ρ m) := by
    induction m, ham using Nat.le_induction with
    | base => exact fun _ => by simpa using waited_after_w1 h ha (hcore ▸ hrun a)
    | succ m ham ih =>
      intro hle
      rw [Finset.sum_Ico_succ_top ham]
      exact (ih (by omega)).next (hwait m ham (by omega)) (hrun m) (hwait (m + 1) (by omega) hle)
  have hsubset : Finset.Ico (a + 1) b ⊆ Finset.Ioc a b := fun k hk => by
    simp only [Finset.mem_Ico, Finset.mem_Ioc] at hk ⊢; omega
  calc (ρ a).seq.toCyc.toNat
      ≤ (∑ k ∈ Finset.Ico (a + 1) b, cycAdvance (σ k)) % 2 ^ 32 := (hwaited b hab le_rfl).toCyc_le hreached
    _ ≤ ∑ k ∈ Finset.Ico (a + 1) b, cycAdvance (σ k) := Nat.mod_le _ _
    _ ≤ ∑ n ∈ Finset.Ioc a b, cycAdvance (σ n) := Finset.sum_le_sum_of_subset hsubset

/-- The whole cycles of `us` microseconds last `us` microseconds at most, and exactly at a whole number of MHz (R51). -/
theorem seconds_of_whole_cycles {clk us n : Nat} (hclk : 1000000 ≤ clk) (hn : n = us * (clk / 1000000)) :
    (n : ℝ) / clk ≤ (us : ℝ) / 1000000 ∧ (clk % 1000000 = 0 → (n : ℝ) / clk = (us : ℝ) / 1000000) := by
  have hpos : (0 : ℝ) < clk := by exact_mod_cast (show 0 < clk by omega)
  have hscale : n * 1000000 = us * (clk / 1000000 * 1000000) := by rw [hn, Nat.mul_assoc]
  constructor
  · rw [div_le_div_iff₀ hpos (by norm_num)]
    exact_mod_cast hscale.le.trans (Nat.mul_le_mul_left us (Nat.div_mul_le_self clk 1000000))
  · intro hwhole
    rw [div_eq_div_iff hpos.ne' (by norm_num)]
    rw [Nat.div_mul_cancel (Nat.dvd_of_mod_eq_zero hwhole)] at hscale
    exact_mod_cast hscale

/-- Settles O54: from W1 to a W3 at the bound the counter advances by at least TO_CYC, which takes an ideal clock that
long. -/
theorem timedOutWaitLastsItsSeconds : Obligations.TimedOutWaitLastsItsSeconds := by
  intro f g σ ρ τ a b hrun hclocks h hclk hab hcore ha _ _ hwait hreached
  subst hclk
  obtain ⟨hmega, htoCyc⟩ := h.wait_limit (by simp [ha])
  have hpos : (0 : ℝ) < (ρ a).regs.clkHz.toNat := by exact_mod_cast (show 0 < (ρ a).regs.clkHz.toNat by omega)
  have hadvance := toCyc_le_sum_of_wait hrun h hab hcore ha hwait hreached
  refine ⟨lt_elapsed_of_floor_sub hpos ?_, seconds_of_whole_cycles hmega htoCyc⟩
  rw [← hclocks.cyc a b hab.le]
  exact_mod_cast hadvance

end Sys2Proof.Machine
end

section
/-! Issue of a WAIT_EDGE, and a line that is at its level already (R125, R126). -/

namespace Sys2Proof.Machine

/-- The counter advances by `k`, then the running command takes its step. -/
theorem runActions_cyc_core {i : Instr} {s t : State} {k : Nat} (hbusy : s.status.busy = true)
    (hi : runningCommand s = some i)
    (hexec : exec i { s with ext.cyccnt := s.ext.cyccnt + BitVec.ofNat 32 k } = .next t) (as : List AgentAction) :
    runActions (.env (.cyc k) :: .core :: as) s = runActions as t := by
  have hcore : perform .core (envStep (.cyc k) s) = .next t :=
    (coreTurn_busy (s := envStep (.cyc k) s) hbusy hi).trans hexec
  rw [runActions_cons (t := envStep (.cyc k) s) rfl, runActions_cons hcore]

theorem runningCommand_of_waitEdge_opcode {s : State} (h : s.seq.op = 0x03) :
    runningCommand s = some (.waitEdge s.seq.lvl) :=
  ofOpcode_eq_some h fun _ hl => Instr.waitEdge.inj hl

/-- WAIT_EDGE issued to `s`. -/
def waitAtV (level : Bool) (s : State) : State :=
  { s with
    regs.cmd := encode (.waitEdge level), seq.op := 0x03, seq.lvl := level, seq.uPC := .v
    status.busy := true, status.state := .idle, status.err := .noError, status.stage := false }

theorem startWord_waitEdge (level : Bool) (s : State) : startWord (encode (.waitEdge level)) s = waitAtV level s := by
  rw [startWord, opcOf_encode, levelOf_encode]
  rfl

/-- WAIT_EDGE issued to `s` and validated: at W1 with a count. -/
def waitAtW1 (level : Bool) (count : Word) (s : State) : State :=
  { waitAtV level s with
    seq.uPC := .w1, seq.n := triggerCycles s, seq.toCyc := timeoutCycles s
    status.state := if level then .awaitingRisingEdge else .awaitingFallingEdge
    ext.cyccnt := count }

/-- `s` after a W1 that read `start`. -/
def afterW1 (start : Word) (s : State) : State :=
  { s with seq.c0 := start, seq.uPC := .w2, ext.cyccnt := start }

theorem run_wait_to_w1 {s : State} (level : Bool) (k : Nat) (hidle : s.status.busy = false) (hto : ToOk s)
    (as : List AgentAction) :
    runActions (.host (.regWrite 0 (encode (.waitEdge level))) :: .env (.cyc k) :: .core :: as) s =
      runActions as (waitAtW1 level (s.ext.cyccnt + BitVec.ofNat 32 k) s) := by
  have hv := exec_checked_at_v (P := ToOk s) (.waitEdge level) (s := envStep (.cyc k) (waitAtV level s)) rfl (by simp)
    rfl
  rw [if_pos hto] at hv
  rw [runActions_cons (perform_write_cmd (decode_encode _) hidle), startWord_waitEdge]
  exact runActions_cyc_core (s := waitAtV level s) rfl (runningCommand_of_waitEdge_opcode rfl) hv as

theorem run_from_w1 {i : Instr} {s : State} {level : Bool} (hbusy : s.status.busy = true)
    (hi : runningCommand s = some i) (hwaits : i ∈ waiters level) (hpc : s.seq.uPC = .w1) (k : Nat)
    (as : List AgentAction) :
    runActions (.env (.cyc k) :: .core :: as) s = runActions as (afterW1 (s.ext.cyccnt + BitVec.ofNat 32 k) s) :=
  runActions_cyc_core hbusy hi (exec_at_w1 hwaits hpc) as

/-- Settles O45: V, W1, and a W2 that hits. -/
theorem waitIsLevelSensitive : Obligations.WaitIsLevelSensitive := by
  intro s level a b c hidle hto hline
  have hrunning {x : State} := runningCommand_of_waitEdge_opcode (s := x)
  rw [run_wait_to_w1 level a hidle hto, run_from_w1 rfl (hrunning rfl) (List.mem_cons_self ..) rfl]
  exact ⟨_, runActions_cyc_core rfl (hrunning rfl) (exec_waitEdge_at_w2_hit rfl hline) [], rfl, rfl, rfl, rfl, hline,
    rfl, rfl, rfl⟩

end Sys2Proof.Machine
end

section
/-! The echo wait under the script E1, one counter cycle before each CORE step (R125, R259). -/

namespace Sys2Proof.Machine

/-! ### A command that runs at the end of a script has run throughout -/

theorem idle_after_scriptE1 {s t : State} {k : Nat} (hidle : s.status.busy = false)
    (h : runActions (scriptE1 k) s = .next t) : t.status.busy = false := by
  induction k generalizing s with
  | zero => cases h; exact hidle
  | succ k ih =>
    have hcore : perform .core (envStep (.cyc 1) s) = .next (envStep (.cyc 1) s) := coreTurn_idle hidle
    rw [scriptE1, runActions_cons (t := envStep (.cyc 1) s) rfl, runActions_cons hcore] at h
    exact ih (s := envStep (.cyc 1) s) hidle h

theorem busy_within_scriptE1 {s t : State} {j k : Nat} (h : runActions (scriptE1 (j + k)) s = .next t)
    (hbusy : t.status.busy = true) : ∃ u, runActions (scriptE1 j) s = .next u ∧ u.status.busy = true := by
  induction j generalizing s with
  | zero =>
    refine ⟨s, rfl, ?_⟩
    by_contra hidle
    rw [idle_after_scriptE1 (by simpa using hidle) h] at hbusy
    cases hbusy
  | succ j ih =>
    rw [Nat.succ_add] at h
    rw [scriptE1, runActions_cons (t := envStep (.cyc 1) s) rfl] at h ⊢
    cases hcore : perform .core (envStep (.cyc 1) s) with
    | next s' => rw [runActions_cons hcore] at h ⊢; exact ih h
    | fault r => simp [runActions, hcore] at h
    | refused r => simp [runActions, hcore] at h

/-! ### The rounds of a wait -/

/-- `s` in the wait that began at `s.seq.c0`: at a label, with the line sampled and so many cycles elapsed. -/
def inWait (l : Label) (elapsed : Word) (s : State) : State :=
  { s with regs.echoSeen := s.ext.echoLine, seq.uPC := l, ext.cyccnt := s.seq.c0 + elapsed }

theorem inWait_elapsed (l : Label) (elapsed : Word) (s : State) :
    (inWait l elapsed s).ext.cyccnt + 1 - (inWait l elapsed s).seq.c0 = elapsed + 1 := by
  change s.seq.c0 + elapsed + 1 - s.seq.c0 = elapsed + 1
  rw [add_assoc, add_sub_cancel_left]

section
variable {i : Instr} {s : State} (hbusy : s.status.busy = true) (hi : runningCommand s = some i)
  (hwaits : i ∈ waiters s.seq.lvl) (hline : s.ext.echoLine ≠ s.seq.lvl)
include hbusy hi hwaits hline

/-- A round at W2 samples the other level. -/
theorem scriptE1_at_w2 {elapsed : Word} (hpc : s.seq.uPC = .w2) (hcount : s.ext.cyccnt = s.seq.c0 + elapsed)
    (k : Nat) : runActions (scriptE1 (k + 1)) s = runActions (scriptE1 k) (inWait .w3 (elapsed + 1) s) := by
  refine runActions_scriptE1_succ hbusy hi ?_ k
  rw [hcount, add_assoc]
  exact exec_at_w2_miss (s := { s with ext.cyccnt := s.seq.c0 + (elapsed + 1) }) hwaits hpc hline

/-- Two rounds from W3 lead back to W3, where the first still finds the bound ahead. -/
theorem scriptE1_at_w3_early {elapsed : Word} (hbelow : (elapsed + 1).toNat < s.seq.toCyc.toNat) (k : Nat) :
    runActions (scriptE1 (k + 1 + 1)) (inWait .w3 elapsed s) =
      runActions (scriptE1 k) (inWait .w3 (elapsed + 1 + 1) s) := by
  have hw3 : runActions (scriptE1 (k + 1 + 1)) (inWait .w3 elapsed s) =
      runActions (scriptE1 (k + 1)) (inWait .w2 (elapsed + 1) s) := by
    refine runActions_scriptE1_succ (s := inWait .w3 elapsed s) hbusy hi ?_ (k + 1)
    rw [inWait, inWait, ← add_assoc]
    exact exec_at_w3_early (s := { inWait .w3 elapsed s with ext.cyccnt := s.seq.c0 + elapsed + 1 }) hwaits rfl
      ((inWait_elapsed .w3 elapsed s).symm ▸ hbelow)
  rw [hw3]
  exact scriptE1_at_w2 (s := inWait .w2 (elapsed + 1) s) hbusy hi hwaits hline rfl rfl k

/-- `2 j` rounds from W3 that find the bound ahead. -/
theorem scriptE1_waits_at_w3 {j : Nat} (hj : 2 * j ≤ s.seq.toCyc.toNat - 1) (k : Nat) :
    runActions (scriptE1 (k + 2 * j)) (inWait .w3 1 s) =
      runActions (scriptE1 k) (inWait .w3 (BitVec.ofNat 32 (2 * j + 1)) s) := by
  induction j generalizing k with
  | zero => rfl
  | succ j ih =>
    have hbelow : (BitVec.ofNat 32 (2 * j + 1) + 1).toNat < s.seq.toCyc.toNat := by bv_omega
    have helapsed : BitVec.ofNat 32 (2 * j + 1) + 1 + 1 = BitVec.ofNat 32 (2 * (j + 1) + 1) := by bv_omega
    rw [show k + 2 * (j + 1) = k + 1 + 1 + 2 * j by omega, ih (by omega),
      scriptE1_at_w3_early hbusy hi hwaits hline hbelow, helapsed]

/-- From W1 the command is at W3 after `2 j + 2` rounds, as long as no read finds the bound reached. -/
theorem scriptE1_from_w1 (hpc : s.seq.uPC = .w1) {j : Nat} (hj : 2 * j ≤ s.seq.toCyc.toNat - 1) (k : Nat) :
    runActions (scriptE1 (k + 2 * j + 1 + 1)) s =
      runActions (scriptE1 k) (inWait .w3 (BitVec.ofNat 32 (2 * j + 1)) (afterW1 (s.ext.cyccnt + 1) s)) := by
  have hw2 := scriptE1_at_w2 (s := afterW1 (s.ext.cyccnt + 1) s) hbusy hi hwaits hline rfl (add_zero _).symm (k + 2 * j)
  exact (run_from_w1 hbusy hi hwaits hpc 1 _).trans (hw2.trans
    (scriptE1_waits_at_w3 (s := afterW1 (s.ext.cyccnt + 1) s) hbusy hi hwaits hline hj k))

end

/-- WAIT_EDGE under E1, at the W3 that reads `2 j + 2` cycles. -/
def lateWait (level : Bool) (j : Nat) (s : State) : State :=
  inWait .w3 (BitVec.ofNat 32 (2 * j + 1)) (afterW1 (s.ext.cyccnt + 1 + 1) (waitAtW1 level (s.ext.cyccnt + 1) s))

theorem run_wait_to_w3 {s : State} {level : Bool} {j : Nat} (hidle : s.status.busy = false) (hto : ToOk s)
    (hline : s.ext.echoLine ≠ level) (hj : 2 * j ≤ (timeoutCycles s).toNat - 1) (k : Nat) :
    runActions (.host (.regWrite 0 (encode (.waitEdge level))) :: scriptE1 (2 * j + 3 + k)) s =
      runActions (scriptE1 k) (lateWait level j s) := by
  rw [show 2 * j + 3 + k = k + 2 * j + 1 + 1 + 1 by omega, scriptE1, run_wait_to_w1 level 1 hidle hto]
  exact scriptE1_from_w1 (s := waitAtW1 level (s.ext.cyccnt + 1) s) rfl (runningCommand_of_waitEdge_opcode rfl)
    (List.mem_cons_self ..) hline rfl hj k

/-- The W3 that reads `2 j + 2` cycles, at least TO_CYC, ends the wait (R124). -/
theorem scriptE1_lateWait {s : State} {level : Bool} {j : Nat} (hlast : 2 * j + 2 < 2 ^ 32)
    (hreached : (timeoutCycles s).toNat ≤ 2 * j + 2) :
    runActions (scriptE1 1) (lateWait level j s) = .next (raise .timeout (!level)
      { lateWait level j s with ext.cyccnt := s.ext.cyccnt + BitVec.ofNat 32 (2 * j + 4) }) := by
  have hcount : (lateWait level j s).ext.cyccnt + 1 = s.ext.cyccnt + BitVec.ofNat 32 (2 * j + 4) := by
    change s.ext.cyccnt + 1 + 1 + BitVec.ofNat 32 (2 * j + 1) + 1 = _
    bv_omega
  have hread : (timeoutCycles s).toNat ≤
      (s.ext.cyccnt + BitVec.ofNat 32 (2 * j + 4) - (s.ext.cyccnt + 1 + 1)).toNat := by bv_omega
  refine runActions_scriptE1_succ (s := lateWait level j s) rfl (runningCommand_of_waitEdge_opcode rfl) ?_ 0
  rw [hcount]
  exact exec_waitEdge_at_w3_late rfl hread

/-- Settles O44: V and W1 take a round each, then W2 and W3 take turns; the first W3 that reads at least TO_CYC is the
last step, and the command runs until then. -/
theorem waitTimesOutOnTheStatedStep : Obligations.WaitTimesOutOnTheStatedStep := by
  intro s level bound steps hidle hto hbound hfits hline hsteps
  have htoCyc : (timeoutCycles s).toNat = bound := (toNat_timeoutCycles hto).trans hbound.symm
  obtain ⟨j, hj, hreached, rfl⟩ : ∃ j, 2 * j ≤ bound - 1 ∧ bound ≤ 2 * j + 2 ∧ steps = 2 * j + 3 + 1 :=
    ⟨max 1 ((bound + 1) / 2) - 1, by omega, by omega, by omega⟩
  have hrun := run_wait_to_w3 (j := j) hidle hto hline (htoCyc ▸ hj)
  constructor
  case left =>
    intro k hk
    obtain ⟨d, hd⟩ := Nat.exists_eq_add_of_le (Nat.le_of_lt_succ hk)
    have hw3 := hrun 0
    rw [runActions_cons (perform_write_cmd (decode_encode _) hidle)] at hw3 ⊢
    rw [Nat.add_zero, hd] at hw3
    exact busy_within_scriptE1 hw3 rfl
  case right =>
    rw [hrun 1, scriptE1_lateWait (by omega) (htoCyc ▸ hreached)]
    have hword : timeoutCycles s = BitVec.ofNat 32 bound := by rw [← htoCyc, BitVec.ofNat_toNat, BitVec.setWidth_eq]
    have hstart : s.ext.cyccnt + 1 + 1 = s.ext.cyccnt + 2 := by bv_omega
    rw [← hword, ← hstart]
    rfl

end Sys2Proof.Machine
end

section
/-! The micro-steps of the pulse timer as whole next states (R140 to R143), and the scaling of its ticks (R144). -/

namespace Sys2Proof.Machine

section
variable {i : Instr} {s : State}

/-- At a label that every command of `is` has, each of them takes its micro-step. -/
theorem exec_at_shared_label {is : List Instr} {l : Label} (hshared : ∀ j ∈ is, l ∈ microProgram j)
    (hi : i ∈ is) (hpc : s.seq.uPC = l) : exec i s = .next (microStep i s) :=
  exec_eq_next_iff.2 ⟨hpc ▸ hshared i hi, rfl⟩

theorem exec_at_s1 (hi : i ∈ [Instr.timerStart, .measureUs, .measureCm]) (hpc : s.seq.uPC = .s1) :
    exec i s = .next { s with ext.tmrCnt := 0, seq.uPC := .s2 } := by
  rw [exec_at_shared_label (by decide) hi hpc]
  simp only [microStep, verdict, effect, hpc]
  rfl

theorem exec_timerStart_at_s2 (hpc : s.seq.uPC = .s2) :
    exec .timerStart s = .next (finishOk { s with ext.tmrRun := true }) := by
  simp only [exec, execTimerStart, hpc]
  rfl

/-- A MEASURE command goes on from S2 to the falling wait (R141). -/
theorem exec_measure_at_s2 (hi : i ∈ [Instr.measureUs, .measureCm]) (hpc : s.seq.uPC = .s2) :
    exec i s = .next { s with
      ext.tmrRun := true, status.state := .awaitingFallingEdge, seq.lvl := false, seq.uPC := .w1 } := by
  obtain ⟨publish, h⟩ := exec_of_measure (s := s) hi
  rw [h]
  simp only [measureStep, hpc]
  rfl

theorem exec_at_p1 (hi : i ∈ [Instr.timerStopRead, .measureUs, .measureCm]) (hpc : s.seq.uPC = .p1) :
    exec i s = .next { s with ext.tmrRun := false, seq.uPC := .p2 } := by
  rw [exec_at_shared_label (by decide) hi hpc]
  simp only [microStep, verdict, effect, hpc]
  rfl

/-- P2 of the commands that publish the pulse and no distance (R143). -/
theorem exec_pulse_at_p2 (hi : i ∈ [Instr.timerStopRead, .measureUs]) (hpc : s.seq.uPC = .p2) :
    exec i s = .next (finishOk (publishPulse s)) := by
  have hcm : ∀ j ∈ [Instr.timerStopRead, .measureUs], j ≠ .measureCm := by decide
  rw [exec_at_shared_label (by decide) hi hpc]
  simp only [microStep, verdict, effect, effectAtP2, hpc, if_neg (hcm i hi)]
  rfl

theorem exec_measureCm_at_p2 (hpc : s.seq.uPC = .p2) :
    exec .measureCm s = .next (finishOk (publishDistance s)) := by
  simp only [exec, execMeasureCm, measureStep, hpc]
  rfl

end

/-- Settles O21, label by label; at P2 the pulse is what `publishPulse` writes, and the distance what
`publishDistance` adds to it. -/
theorem pulseTimerSteps : Obligations.PulseTimerSteps := by
  refine fun s => ⟨fun hpc i hi => exec_at_s1 hi hpc,
    fun hpc => ⟨exec_timerStart_at_s2 hpc, fun i hi => exec_measure_at_s2 hi hpc⟩,
    fun hpc i hi => exec_at_p1 hi hpc, fun hpc ticks us hticks hus => ?_⟩
  subst hus hticks
  exact ⟨fun i hi => exec_pulse_at_p2 hi hpc, exec_measureCm_at_p2 hpc⟩

/-- `to_us` on natural numbers: the floor of the exact quotient, saturated (R144). -/
theorem toNat_toUs {rate : Word} (h : rate ≠ 0) (k : Word) :
    (toUs rate k).toNat = min (k.toNat * 1000000 / rate.toNat) (2 ^ 32 - 1) := by
  rw [toUs_of_ne_zero h, BitVec.toNat_ofNat]
  exact Nat.mod_eq_of_lt (by omega)

/-- From 1 MHz up a tick is at most a microsecond long. -/
theorem scaled_le_of_megahertz {rate : Word} (h : 1000000 ≤ rate.toNat) (k : Word) :
    k.toNat * 1000000 / rate.toNat ≤ k.toNat :=
  Nat.div_le_of_le_mul (by rw [Nat.mul_comm]; exact Nat.mul_le_mul_right _ h)

/-- Settles O36: the floor is `toNat_toUs`, and from 1 MHz up it is at most the count, itself below 2^32. -/
theorem ticksScaleToMicroseconds : Obligations.TicksScaleToMicroseconds := by
  intro rate k hrate
  have hfloor := toNat_toUs hrate k
  refine ⟨hfloor, fun hmega => BitVec.eq_of_toNat_eq ?_, fun hmega => ?_⟩
  · subst hmega
    rw [hfloor, show (1000000 : Word).toNat = 1000000 from rfl, Nat.mul_div_cancel _ (by decide)]
    omega
  · have hle := scaled_le_of_megahertz hmega k
    omega

end Sys2Proof.Machine
end

section
/-! A whole TIMER_START and a whole TIMER_STOP_READ, with any steps of ENV before each CORE step (R140 to R146). -/

namespace Sys2Proof.Machine

/-- By how much steps of ENV advance the timer's count: only while it runs (R68). -/
def timerAdvance (running : Bool) (steps : List EnvStep) : Nat :=
  if running then (steps.map (fun e => tmrAdvance (.env e))).sum else 0

/-- Whether the timer of `x` runs, and its count as the ticks it stands for (R46, R8). -/
structure TimerAt (running : Bool) (ticks : Nat) (x : External) : Prop where
  run : x.tmrRun = running
  count : x.tmrCnt = BitVec.ofNat Config.timerWidth ticks

theorem timerAt_self (x : External) : TimerAt x.tmrRun x.tmrCnt.toNat x := ⟨rfl, by simp⟩

section
variable {s : State} {running : Bool} {ticks : Nat} (htimer : TimerAt running ticks s.ext)
include htimer

theorem runActions_env_append (steps : List EnvStep) :
    ∃ x, TimerAt running (ticks + timerAdvance running steps) x ∧
      ∀ as, runActions (steps.map .env ++ as) s = runActions as { s with ext := x } := by
  obtain ⟨x, hrun, -, hkeeps, hcounts, hholds⟩ := runActions_env steps s
  refine ⟨x, ⟨hkeeps.trans htimer.run, ?_⟩, fun as => runActions_append hrun⟩
  cases running with
  | true => rw [hcounts htimer.run, htimer.count, timerAdvance, if_pos rfl, BitVec.ofNat_add]
  | false => exact (hholds htimer.run).trans htimer.count

/-- Steps of ENV and then a CORE step of the running command, which does `f` whatever the collaborators are. -/
theorem runActions_env_core {i : Instr} (f : State → State) (steps : List EnvStep) (hbusy : s.status.busy = true)
    (hi : runningCommand s = some i) (hexec : ∀ x, exec i { s with ext := x } = .next (f { s with ext := x })) :
    ∃ x, TimerAt running (ticks + timerAdvance running steps) x ∧
      ∀ as, runActions (steps.map .env ++ .core :: as) s = runActions as (f { s with ext := x }) := by
  obtain ⟨x, hx, hrun⟩ := runActions_env_append htimer steps
  have hcore : perform .core { s with ext := x } = .next (f { s with ext := x }) :=
    (coreTurn_busy (s := { s with ext := x }) hbusy hi).trans (hexec x)
  exact ⟨x, hx, fun as => (hrun _).trans (runActions_cons hcore)⟩

end

/-- TIMER_START leaves the timer running, its count what a timer that ran already advanced by between S1 and S2. -/
theorem run_timerStart {s : State} (hidle : s.status.busy = false) (e1 e2 e3 : List EnvStep) :
    ∃ t : State, (∀ as, runActions (.host (.regWrite 0 0x00000004) :: (e1.map .env ++ .core ::
        (e2.map .env ++ .core :: (e3.map .env ++ .core :: as)))) s = runActions as t) ∧
      TimerAt true (timerAdvance s.ext.tmrRun e3) t.ext ∧
      t.status.busy = false ∧ t.regs = { s.regs with cmd := 0x00000004 } := by
  have hissue := perform_write_cmd (w := 0x00000004) (i := .timerStart) rfl hidle
  obtain ⟨x1, hx1, hv⟩ := runActions_env_core (s := startWord 0x00000004 s) (timerAt_self s.ext)
    validateTimerStart e1 rfl rfl fun _ => rfl
  obtain ⟨x2, hx2, hs1⟩ := runActions_env_core
    (s := validateTimerStart { startWord 0x00000004 s with ext := x1 }) hx1 microS1 e2 rfl rfl fun _ => rfl
  obtain ⟨x3, hx3, hs2⟩ := runActions_env_core
    (s := microS1 { validateTimerStart { startWord 0x00000004 s with ext := x1 } with ext := x2 })
    ⟨hx2.run, show _ = BitVec.ofNat _ 0 from rfl⟩ (microS2 finishOk) e3 rfl rfl fun _ => rfl
  rw [Nat.zero_add] at hx3
  have hrun as := (runActions_cons hissue).trans ((hv _).trans ((hs1 _).trans (hs2 as)))
  exact ⟨_, hrun, ⟨rfl, hx3.count⟩, rfl, rfl⟩

/-- V of TIMER_STOP_READ where the tick rate passes (R95). -/
def timerStopAtP1 (s : State) : State := s |> latchLimits |> setPhase .measuring |> setPc .p1

theorem exec_timerStopRead_at_v {s : State} (hpc : s.seq.uPC = .v) (hrate : TickOk s) :
    exec .timerStopRead s = .next (timerStopAtP1 s) := by
  rw [exec_checked_at_v (P := TickOk s) .timerStopRead hpc (by decide) rfl, if_pos hrate]
  rfl

/-- TIMER_STOP_READ of a running timer reads the count it finds and the advance until P1, and stops the timer. -/
theorem run_timerStopRead {s : State} {ticks : Nat} (htimer : TimerAt true ticks s.ext)
    (hidle : s.status.busy = false) (hrate : TickOk s) (e1 e2 e3 : List EnvStep) :
    ∃ (t : State) (read : Word), runActions (.host (.regWrite 0 0x00000005) :: (e1.map .env ++ .core ::
        (e2.map .env ++ .core :: (e3.map .env ++ [.core])))) s = .next t ∧
      read = BitVec.ofNat 32 (ticks + timerAdvance true e1 + timerAdvance true e2) ∧
      t.regs = { s.regs with cmd := 0x00000005, resultTicks := read, resultUs := toUs s.regs.tickHz read } ∧
      t.ext.tmrRun = false ∧ t.status.busy = false ∧ t.status.state = .complete ∧ t.status.lastOp = 0x05 := by
  have hissue := perform_write_cmd (w := 0x00000005) (i := .timerStopRead) rfl hidle
  obtain ⟨x1, hx1, hv⟩ := runActions_env_core (s := startWord 0x00000005 s) htimer
    timerStopAtP1 e1 rfl rfl fun _ => exec_timerStopRead_at_v rfl hrate
  obtain ⟨x2, hx2, hp1⟩ := runActions_env_core
    (s := timerStopAtP1 { startWord 0x00000005 s with ext := x1 }) hx1 microP1 e2 rfl rfl fun _ => rfl
  obtain ⟨x3, hx3, hp2⟩ := runActions_env_core
    (s := microP1 { timerStopAtP1 { startWord 0x00000005 s with ext := x1 } with ext := x2 })
    (running := false) ⟨rfl, hx2.count⟩ (microP2 publishPulse) e3 rfl rfl fun _ => rfl
  have hrun := (runActions_cons hissue).trans ((hv _).trans ((hp1 _).trans (hp2 [])))
  exact ⟨_, zextCount x3.tmrCnt, hrun, (BitVec.setWidth_eq _).trans hx3.count, rfl, hx3.run, rfl, rfl, rfl⟩

/-- Settles O42: TIMER_START leaves the count of the steps between S1 and S2, the steps between the two commands advance
it, and TIMER_STOP_READ adds the rest. -/
theorem timerCountsFromStartToStop : Obligations.TimerCountsFromStartToStop := by
  intro s e1 e2 e3 e4 e5 e6 e7 ticks hidle hrate hticks
  obtain ⟨a, hstart, hatimer, haidle, haregs⟩ := run_timerStart hidle e1 e2 e3
  obtain ⟨x, hx, hbetween⟩ := runActions_env_append hatimer e4
  have hxrate : TickOk { a with ext := x } := by rw [TickOk, haregs]; exact hrate
  obtain ⟨t, read, hstop, hread, htregs, hdone⟩ := run_timerStopRead (s := { a with ext := x }) hx haidle hxrate
    e5 e6 e7
  have hsum : timerAdvance s.ext.tmrRun e3 + timerAdvance true e4 + timerAdvance true e5 + timerAdvance true e6 =
      ticks := by
    simp only [hticks, timerAdvance, if_true, List.map_append, List.sum_append]
    omega
  rw [hsum] at hread
  subst hread
  refine ⟨t, ?run, by rw [htregs], by rw [htregs, haregs], by rw [htregs, haregs], hdone⟩
  simp only [List.append_assoc, List.cons_append, List.nil_append]
  rw [hstart, hbetween, hstop]

end Sys2Proof.Machine
end

section
/-! TO_CM: its conversion step, and its whole run (R163, R259). -/

namespace Sys2Proof.Machine

theorem exec_toCm_at_c1 {s : State} (hpc : s.seq.uPC = .c1) : exec .toCm s = .next (microC1 s) := by
  simp only [exec, execToCm, hpc]

/-- Settles O23: the state R163 names is `microC1`'s. -/
theorem conversionStep : Obligations.ConversionStep :=
  fun _ hpc => exec_toCm_at_c1 hpc

theorem exec_toCm_at_v {s : State} (hpc : s.seq.uPC = .v) : exec .toCm s = .next (validateToCm s) :=
  exec_at_v hpc .toCm

/-- Issued to an idle block, TO_CM takes V and C1 (R163). -/
theorem run_toCm {s : State} (hidle : s.status.busy = false) :
    runActions [.host (.regWrite 0 0x00000006), .core, .core] s =
      .next (microC1 (validateToCm (startWord 0x00000006 s))) := by
  have hissue := perform_write_cmd (w := 0x00000006) (i := .toCm) rfl hidle
  have hv : perform .core (startWord 0x00000006 s) = .next (validateToCm (startWord 0x00000006 s)) :=
    (coreTurn_busy rfl rfl).trans (exec_toCm_at_v rfl)
  have hc1 : perform .core (validateToCm (startWord 0x00000006 s)) =
      .next (microC1 (validateToCm (startWord 0x00000006 s))) :=
    (coreTurn_busy rfl rfl).trans (exec_toCm_at_c1 rfl)
  rw [runActions_cons hissue, runActions_cons hv, runActions_cons hc1, runActions]

/-- Settles O41: the write of the operand, then the command's run. -/
theorem toCmRunsInTwoSteps : Obligations.ToCmRunsInTwoSteps := by
  intro s us hidle
  have hoperand := perform_write_idle (i := 5) (v := us) (fun s => { s with regs.operandUs := us }) hidle rfl
  have hstatus := congrArg (fun busy =>
    { s.status with busy, state := .complete, err := .noError, stage := false, lastOp := 0x06 }) hidle.symm
  exact ⟨_, (runActions_cons hoperand).trans (run_toCm hidle), rfl, hstatus, rfl, rfl⟩

end Sys2Proof.Machine
end

section
/-! Rounding a rational number to the nearest natural number, ties to even (R161). -/

namespace Sys2Proof.Machine

/-- `m` is `y` rounded to the nearest natural number, ties to the even one. -/
def RoundsTo (y : ℚ) (m : ℕ) : Prop := |m - y| < 1 / 2 ∨ |m - y| = 1 / 2 ∧ m % 2 = 0

/-- A rounded division misses the dividend by at most half the divisor. -/
theorem divNearestEven_cases (a d : ℕ) (hd : 0 < d) : ∃ r : ℕ,
    (a = d * divNearestEven a d + r ∨ a + r = d * divNearestEven a d) ∧
      (2 * r < d ∨ 2 * r = d ∧ divNearestEven a d % 2 = 0) := by
  have hsplit := Nat.div_add_mod a d
  have hrem := Nat.mod_lt a hd
  have down : a = d * (a / d) + a % d := hsplit.symm
  have up : a + (d - a % d) = d * (a / d + 1) := by rw [Nat.mul_succ]; omega
  simp only [divNearestEven]
  split
  next hlow => exact ⟨_, .inl down, .inl hlow⟩
  next hlow =>
    split
    next hhigh => exact ⟨_, .inr up, .inl (by omega)⟩
    next hhigh =>
      split
      next heven => exact ⟨_, .inl down, .inr ⟨by omega, heven⟩⟩
      next hodd => exact ⟨_, .inr up, .inr ⟨by omega, by omega⟩⟩

theorem roundsTo_divNearestEven (a : ℕ) {d : ℕ} (hd : 0 < d) : RoundsTo (a / d) (divNearestEven a d) := by
  have hdpos : (0 : ℚ) < d := by exact_mod_cast hd
  obtain ⟨r, hr, hhalf⟩ := divNearestEven_cases a d hd
  generalize divNearestEven a d = n at hr hhalf ⊢
  have hdist : |(n : ℚ) - a / d| = r / d := by
    obtain h | h := hr
    · have hdown : (n : ℚ) - a / d = -(r / d) := by rw [h]; push_cast; field_simp; ring
      rw [hdown, abs_neg, abs_of_nonneg (by positivity)]
    · have hq : (d : ℚ) * n = a + r := by exact_mod_cast h.symm
      have hup : (n : ℚ) - a / d = r / d := by field_simp; linarith
      rw [hup, abs_of_nonneg (by positivity)]
  rw [RoundsTo, hdist, div_lt_div_iff₀ hdpos two_pos, div_eq_div_iff hdpos.ne' two_ne_zero]
  obtain hlt | ⟨htie, heven⟩ := hhalf
  · exact .inl (by exact_mod_cast (by omega : r * 2 < 1 * d))
  · exact .inr ⟨by exact_mod_cast (by omega : r * 2 = 1 * d), heven⟩

namespace RoundsTo
variable {y : ℚ} {m : ℕ} (h : RoundsTo y m)
include h

theorem dist_le_half : |m - y| ≤ 1 / 2 := h.elim le_of_lt fun htie => htie.1.le

/-- No whole number is nearer, and where another is as near the rounded one is even. -/
theorem nearest (k : ℤ) : |m - y| ≤ |k - y| ∧ (|m - y| = |k - y| → k ≠ m → m % 2 = 0) := by
  obtain rfl | hne := eq_or_ne k m
  · simp
  · have hapart : (1 : ℚ) ≤ |(k : ℚ) - m| := by exact_mod_cast Int.one_le_abs (sub_ne_zero.2 hne)
    have htriangle : |(k : ℚ) - m| ≤ |k - y| + |m - y| := by
      rw [abs_sub_comm (m : ℚ) y]; exact abs_sub_le _ _ _
    have hhalf := h.dist_le_half
    refine ⟨by linarith, fun htie _ => ?_⟩
    obtain hlt | ⟨-, heven⟩ := h
    · linarith
    · exact heven

theorem eq_of_whole (k : ℤ) (hk : y = k) : (m : ℚ) = y := by
  have hnear := (h.nearest k).1
  rw [hk, sub_self, abs_zero, abs_nonpos_iff, sub_eq_zero] at hnear
  rw [hnear, hk]

end RoundsTo

end Sys2Proof.Machine
end

section
/-! The value of a binary32 pattern as a multiple of the spacing of its exponent (R161). -/

namespace Sys2Proof.Machine

theorem expField_eq (p : Word) : expField p = p.toNat / 2 ^ 23 % 256 := by
  simp [expField, Nat.shiftRight_eq_div_pow]

theorem fracField_eq (p : Word) : fracField p = p.toNat % 2 ^ 23 := by
  simp [fracField]

theorem signBit_eq (p : Word) : p.getLsbD 31 = decide (2 ^ 31 ≤ p.toNat) := by
  rw [← BitVec.msb_eq_getLsbD_last p, BitVec.msb_eq_decide]

/-- The spacing of binary32 values at an exponent step (R161). -/
def spacing (step : ℕ) : ℚ := 2 ^ step / 2 ^ 149

theorem spacing_pos (step : ℕ) : 0 < spacing step := by
  unfold spacing
  positivity

theorem spacing_add (step k : ℕ) : spacing (step + k) = 2 ^ k * spacing step := by
  unfold spacing
  ring

/-- The fraction with the leading one that it has in the normal range. -/
def significand (p : Word) : ℕ := if expField p = 0 then fracField p else 2 ^ 23 + fracField p

theorem significand_lt (p : Word) : significand p < 2 ^ 24 := by
  have hfrac : fracField p < 2 ^ 23 := BitVec.isLt _
  unfold significand
  split <;> omega

/-- The subnormal range has the spacing of exponent 1. -/
theorem binary32Value_eq (p : Word) : binary32Value p = if expField p = 255 then none
    else some ((if p.getLsbD 31 then -1 else 1 : ℚ) * (significand p * spacing (expField p - 1))) := by
  unfold binary32Value significand spacing
  generalize (if p.getLsbD 31 then -1 else 1 : ℚ) = sign
  split
  next => rfl
  next =>
    split
    next hzero => rw [hzero]; ring_nf
    next hnormal =>
      obtain ⟨e, he⟩ := Nat.exists_eq_succ_of_ne_zero hnormal
      rw [he, Nat.succ_sub_one, pow_succ (2 : ℚ) e]
      ring_nf

theorem binary32Value_of_signBit_false {p : Word} (hsign : p.getLsbD 31 = false) (hfinite : expField p ≠ 255) :
    binary32Value p = some (significand p * spacing (expField p - 1)) := by
  rw [binary32Value_eq, if_neg hfinite, hsign, if_neg Bool.false_ne_true, one_mul]

/-- Every finite value is less than `2^24` multiples of a spacing. -/
theorem multiple_of_binary32Value {p : Word} {u : ℚ} (h : binary32Value p = some u) :
    ∃ (k : ℤ) (j : ℕ), k < 2 ^ 24 ∧ u = k * spacing j := by
  have hlt := significand_lt p
  rw [binary32Value_eq] at h
  split at h
  next => cases h
  next =>
    cases h
    split
    · exact ⟨-significand p, expField p - 1, by omega, by push_cast; ring⟩
    · exact ⟨significand p, expField p - 1, by omega, by push_cast; ring⟩

/-- In multiples of the spacing at `step`, a finite value of a coarser or the same spacing is whole, and one of a finer
spacing is below `2^23`. -/
theorem whole_or_lt_of_binary32Value {p : Word} {w : ℚ} {step : ℕ} (h : binary32Value p = some (w * spacing step)) :
    (∃ k : ℤ, w = k) ∨ step ≠ 0 ∧ w < 2 ^ 23 := by
  obtain ⟨k, j, hk, hw⟩ := multiple_of_binary32Value h
  obtain hcoarse | hfine := le_or_gt step j
  · obtain ⟨i, rfl⟩ := Nat.exists_eq_add_of_le hcoarse
    rw [spacing_add, ← mul_assoc] at hw
    exact .inl ⟨k * 2 ^ i, by exact_mod_cast mul_right_cancel₀ (spacing_pos step).ne' hw⟩
  · obtain ⟨i, rfl⟩ := Nat.exists_eq_add_of_lt hfine
    rw [add_assoc, spacing_add, ← mul_assoc] at hw
    have hw : w * 2 ^ (i + 1) = k := mul_right_cancel₀ (spacing_pos j).ne' hw
    have hkq : (k : ℚ) < 2 ^ 24 := by exact_mod_cast hk
    have hpow : (2 : ℚ) ≤ 2 ^ (i + 1) := le_self_pow₀ one_le_two i.succ_ne_zero
    exact .inr ⟨by omega, by nlinarith⟩

/-- The pattern `step × 2^23 + m` stands for `m` multiples of the spacing `2^(step − 149)`: `m` is a significand of the
normal range, or a lesser one at the lowest step, or is `2^24` and carries into the exponent. -/
theorem binary32Value_of_steps {p : Word} {step m : ℕ} (hp : p = BitVec.ofNat 32 (step * 2 ^ 23 + m))
    (hstep : step ≤ 252) (hm : m ≤ 2 ^ 24) (hnormal : step = 0 ∨ 2 ^ 23 ≤ m) :
    binary32Value p = some (m * spacing step) := by
  have hnat : p.toNat = step * 2 ^ 23 + m := by rw [hp, BitVec.toNat_ofNat]; omega
  have hsign : p.getLsbD 31 = false := by rw [signBit_eq, decide_eq_false_iff_not]; omega
  have hexp := expField_eq p
  have hfrac := fracField_eq p
  have hvalue := binary32Value_of_signBit_false hsign (by omega)
  obtain hlow | hmiddle | rfl : m < 2 ^ 23 ∨ (2 ^ 23 ≤ m ∧ m < 2 ^ 24) ∨ m = 2 ^ 24 := by omega
  · obtain rfl : step = 0 := by omega
    have he : expField p = 0 := by omega
    have hs : significand p = m := by rw [significand, if_pos he]; omega
    rw [hvalue, he, hs]
  · have he : expField p = step + 1 := by omega
    have hs : significand p = m := by rw [significand, if_neg (by omega)]; omega
    rw [hvalue, he, hs, Nat.add_sub_cancel]
  · have he : expField p = step + 2 := by omega
    have hs : significand p = 2 ^ 23 := by rw [significand, if_neg (by omega)]; omega
    rw [hvalue, he, hs, Nat.add_succ_sub_one, spacing_add]
    push_cast
    ring_nf

end Sys2Proof.Machine
end

section
/-! `RNE32` of a quotient is the nearest binary32 value to it, ties to even (R161). -/

namespace Sys2Proof.Machine

/-- The quotient `num / den` in multiples of the spacing around it. -/
def scaledQuotient (num den : ℕ) : ℚ := (num * 2 ^ 149 : ℕ) / (den * 2 ^ exponentStep num den : ℕ)

/-- The multiple of the spacing that `rne32` rounds the quotient to. -/
def roundedMultiple (num den : ℕ) : ℕ := divNearestEven (num * 2 ^ 149) (den * 2 ^ exponentStep num den)

theorem exponentStep_lt {num den k : ℕ} (hk : k ≠ 0) (h : num * 2 ^ 126 < den * 2 ^ k) : exponentStep num den < k := by
  rw [exponentStep, Nat.log2_eq_log_two]
  exact Nat.log_lt_of_lt_pow' hk (Nat.div_lt_of_lt_mul h)

/-- No pattern beyond the largest finite one is produced. -/
theorem toNat_rne32_le (num den : ℕ) : (rne32 num den).toNat ≤ 0x7F7FFFFF := by
  rw [rne32, BitVec.toNat_ofNat]
  omega

theorem signBit_rne32 (num den : ℕ) : (rne32 num den).getLsbD 31 = false := by
  have hle := toNat_rne32_le num den
  rw [signBit_eq, decide_eq_false_iff_not]
  omega

theorem expField_rne32_lt (num den : ℕ) : expField (rne32 num den) < 255 := by
  have hle := toNat_rne32_le num den
  rw [expField_eq]
  omega

section
variable {num den : ℕ} (hden : 0 < den)
include hden

theorem scaledQuotient_mul_spacing : scaledQuotient num den * spacing (exponentStep num den) = num / den := by
  have hpos : (0 : ℚ) < den := by exact_mod_cast hden
  unfold scaledQuotient spacing
  push_cast
  field_simp
  norm_num

theorem roundsTo_roundedMultiple : RoundsTo (scaledQuotient num den) (roundedMultiple num den) :=
  roundsTo_divNearestEven _ (by positivity)

/-- Above the lowest step the spacing leaves the quotient its 24 significant bits. -/
theorem le_scaledQuotient (hstep : exponentStep num den ≠ 0) : 2 ^ 23 ≤ scaledQuotient num den := by
  have hlog : 2 ^ exponentStep num den ≤ num * 2 ^ 126 / den :=
    Nat.log2_self_le fun h => hstep (by rw [exponentStep, h]; rfl)
  have hle := (Nat.le_div_iff_mul_le hden).1 hlog
  rw [scaledQuotient, le_div_iff₀ (by positivity)]
  exact_mod_cast (by linarith : 2 ^ 23 * (den * 2 ^ exponentStep num den) ≤ num * 2 ^ 149)

theorem scaledQuotient_lt : scaledQuotient num den < 2 ^ 24 := by
  have hlog : num * 2 ^ 126 / den < 2 ^ (exponentStep num den + 1) := Nat.lt_log2_self
  have hlt := (Nat.div_lt_iff_lt_mul hden).1 hlog
  rw [scaledQuotient, div_lt_iff₀ (by positivity)]
  rw [pow_succ 2 (exponentStep num den)] at hlt
  exact_mod_cast (by linarith : num * 2 ^ 149 < 2 ^ 24 * (den * 2 ^ exponentStep num den))

theorem roundedMultiple_le : roundedMultiple num den ≤ 2 ^ 24 := by
  have hnear := abs_le.1 (roundsTo_roundedMultiple (num := num) hden).dist_le_half
  have hlt := scaledQuotient_lt (num := num) hden
  have hbound : (roundedMultiple num den : ℚ) < (2 ^ 24 + 1 : ℕ) := by push_cast; linarith
  exact Nat.lt_succ_iff.1 (by exact_mod_cast hbound)

theorem le_roundedMultiple (hstep : exponentStep num den ≠ 0) : 2 ^ 23 ≤ roundedMultiple num den := by
  have hnear := abs_le.1 (roundsTo_roundedMultiple (num := num) hden).dist_le_half
  have hle := le_scaledQuotient hden hstep
  have hbound : ((2 ^ 23 : ℕ) : ℚ) < (roundedMultiple num den + 1 : ℕ) := by push_cast; linarith
  exact Nat.lt_succ_iff.1 (by exact_mod_cast hbound)

/-- In multiples of the spacing, a finite value that is not whole lies below `2^23`, and the quotient does not. -/
theorem roundedMultiple_nearest {p : Word} {w : ℚ}
    (hp : binary32Value p = some (w * spacing (exponentStep num den))) :
    |roundedMultiple num den - scaledQuotient num den| ≤ |w - scaledQuotient num den| ∧
    (|roundedMultiple num den - scaledQuotient num den| = |w - scaledQuotient num den| → w ≠ roundedMultiple num den →
      roundedMultiple num den % 2 = 0) := by
  have hround := roundsTo_roundedMultiple (num := num) hden
  obtain ⟨k, rfl⟩ | ⟨hstep, hbelow⟩ := whole_or_lt_of_binary32Value hp
  · exact_mod_cast hround.nearest k
  · have hle := le_scaledQuotient hden hstep
    have hlt : |roundedMultiple num den - scaledQuotient num den| < |w - scaledQuotient num den| :=
      calc |roundedMultiple num den - scaledQuotient num den|
          ≤ |((2 ^ 23 : ℤ) : ℚ) - scaledQuotient num den| := (hround.nearest (2 ^ 23)).1
        _ = scaledQuotient num den - 2 ^ 23 := by
          rw [abs_sub_comm, abs_of_nonneg (by exact_mod_cast sub_nonneg.2 hle)]
          norm_num
        _ < scaledQuotient num den - w := sub_lt_sub_left hbelow _
        _ ≤ |w - scaledQuotient num den| := by rw [abs_sub_comm]; exact le_abs_self _
    exact ⟨hlt.le, fun h => absurd h hlt.ne⟩

variable (hfinite : exponentStep num den ≤ 252)
include hfinite

theorem rne32_eq :
    rne32 num den = BitVec.ofNat 32 (exponentStep num den * 2 ^ 23 + roundedMultiple num den) := by
  have hle := roundedMultiple_le (num := num) hden
  have hmin : exponentStep num den * 2 ^ 23 + roundedMultiple num den ≤ 0x7F7FFFFF := by omega
  exact congrArg (BitVec.ofNat 32) (Nat.min_eq_left hmin)

theorem binary32Value_rne32 :
    binary32Value (rne32 num den) = some (roundedMultiple num den * spacing (exponentStep num den)) :=
  binary32Value_of_steps (rne32_eq hden hfinite) hfinite (roundedMultiple_le hden)
    ((eq_or_ne _ 0).imp_right (le_roundedMultiple hden))

theorem lowBit_rne32 (heven : roundedMultiple num den % 2 = 0) : (rne32 num den).getLsbD 0 = false := by
  rw [rne32_eq hden hfinite, BitVec.getLsbD_ofNat, Nat.testBit_zero]
  simp only [Nat.zero_lt_succ, decide_true, Bool.true_and, decide_eq_false_iff_not]
  omega

/-- No finite value is nearer to the quotient than the one of `rne32`, and where another is as near its pattern is
even. -/
theorem rne32_nearest : ∃ v : ℚ, binary32Value (rne32 num den) = some v ∧
    ∀ (p : Word) (u : ℚ), binary32Value p = some u →
      |v - (num : ℚ) / den| ≤ |u - (num : ℚ) / den| ∧
      (|v - (num : ℚ) / den| = |u - (num : ℚ) / den| → u ≠ v → (rne32 num den).getLsbD 0 = false) := by
  have hpos := spacing_pos (exponentStep num den)
  have hscale (w : ℚ) : |w * spacing (exponentStep num den) - num / den| =
      |w - scaledQuotient num den| * spacing (exponentStep num den) := by
    rw [← scaledQuotient_mul_spacing hden, ← sub_mul, abs_mul, abs_of_pos hpos]
  refine ⟨_, binary32Value_rne32 hden hfinite, fun p u hp => ?_⟩
  obtain ⟨w, rfl⟩ : ∃ w, u = w * spacing (exponentStep num den) := ⟨_, (div_mul_cancel₀ u hpos.ne').symm⟩
  obtain ⟨hle, heven⟩ := roundedMultiple_nearest hden hp
  rw [hscale, hscale]
  refine ⟨mul_le_mul_of_nonneg_right hle hpos.le, fun htie hne => ?_⟩
  exact lowBit_rne32 hden hfinite (heven (mul_right_cancel₀ hpos.ne' htie) fun h => hne (by rw [h]))

/-- A quotient that is a whole multiple of the spacing is not rounded. -/
theorem binary32Value_rne32_of_whole {k : ℤ} (hwhole : scaledQuotient num den = k) :
    binary32Value (rne32 num den) = some ((num : ℚ) / den) := by
  rw [binary32Value_rne32 hden hfinite, (roundsTo_roundedMultiple hden).eq_of_whole k hwhole,
    scaledQuotient_mul_spacing hden]

end

end Sys2Proof.Machine
end

section
/-! The distance of a count: nearest, monotone, and up to 2^24 what single precision gives (R160, R162, R164). -/

namespace Sys2Proof.Machine

/-- The quotients of a word are far below the largest finite value. -/
theorem exponentStep_word_le (us : Word) {den : ℕ} (hden : 0 < den) : exponentStep us.toNat den ≤ 252 := by
  have hlt := us.isLt
  exact Nat.lt_succ_iff.1 (exponentStep_lt (k := 253) (by decide) (by omega))

/-- The value of `to_cm(us)` is nearest to `us / 58` (R160). -/
theorem toCmBits_nearest (us : Word) : ∃ v : ℚ, binary32Value (toCmBits us) = some v ∧
    ∀ (p : Word) (u : ℚ), binary32Value p = some u →
      |v - (us.toNat : ℚ) / 58| ≤ |u - (us.toNat : ℚ) / 58| ∧
      (|v - (us.toNat : ℚ) / 58| = |u - (us.toNat : ℚ) / 58| → u ≠ v → (toCmBits us).getLsbD 0 = false) := by
  rw [toCmBits_eq_rne32]
  exact rne32_nearest (by decide) (exponentStep_word_le us (by decide))

theorem signBit_toCmBits (us : Word) : (toCmBits us).getLsbD 31 = false := by
  rw [toCmBits_eq_rne32]
  exact signBit_rne32 _ _

theorem expField_toCmBits_lt (us : Word) : expField (toCmBits us) < 255 := by
  rw [toCmBits_eq_rne32]
  exact expField_rne32_lt _ _

/-- Settles O37, for `rne32` of any quotient in the finite range. -/
theorem distanceIsTheNearestBinary32 : Obligations.DistanceIsTheNearestBinary32 := by
  intro us
  obtain ⟨v, hv, hnearest⟩ := toCmBits_nearest us
  exact ⟨v, hv, signBit_toCmBits us, hnearest⟩

/-- Of two points the lesser one has the lesser nearest value. -/
theorem le_of_nearest {x y u v : ℚ} (hxy : x < y) (hu : |u - x| ≤ |v - x|) (hv : |v - y| ≤ |u - y|) : u ≤ v := by
  rw [← sq_le_sq] at hu hv
  by_contra hlt
  nlinarith [mul_pos (sub_pos.2 (not_le.1 hlt)) (sub_pos.2 hxy)]

theorem toCmBits_mono {a b : Word} {u v : ℚ} (hab : a.toNat ≤ b.toNat) (hu : binary32Value (toCmBits a) = some u)
    (hv : binary32Value (toCmBits b) = some v) : u ≤ v := by
  obtain ⟨u', hu', huNearest⟩ := toCmBits_nearest a
  obtain ⟨v', hv', hvNearest⟩ := toCmBits_nearest b
  obtain rfl : u' = u := Option.some.inj (hu'.symm.trans hu)
  obtain rfl : v' = v := Option.some.inj (hv'.symm.trans hv)
  obtain heq | hlt := hab.eq_or_lt
  · obtain rfl := BitVec.eq_of_toNat_eq heq
    exact (Option.some.inj (hu.symm.trans hv)).le
  · have hlt58 : (a.toNat : ℚ) / 58 < b.toNat / 58 :=
      div_lt_div_of_pos_right (by exact_mod_cast hlt) (by norm_num)
    exact le_of_nearest hlt58 (huNearest _ _ hv).1 (hvNearest _ _ hu).1

/-- Settles O38: the stated patterns and their values are evaluated, and a nearest value is monotone. -/
theorem distanceIsMonotone : Obligations.DistanceIsMonotone := by
  refine ⟨by decide, by decide, by decide, ?_, ?_, by decide, ?_,
    fun us => ⟨signBit_toCmBits us, expField_toCmBits_lt us⟩, fun _ _ _ _ => toCmBits_mono⟩
  · calc binary32Value 0x41200000 = some ((0xA00000 : ℕ) * spacing 129) :=
          binary32Value_of_steps (by decide) (by decide) (by decide) (by decide)
      _ = some 10 := by norm_num [spacing]
  · calc binary32Value 0x42C80000 = some ((0xC80000 : ℕ) * spacing 132) :=
          binary32Value_of_steps (by decide) (by decide) (by decide) (by decide)
      _ = some 100 := by norm_num [spacing]
  · calc binary32Value 0x4C8D3DCB = some ((0x8D3DCB : ℕ) * spacing 152) :=
          binary32Value_of_steps (by decide) (by decide) (by decide) (by decide)
      _ = some 74051160 := by norm_num [spacing]

/-- A count of at most `2^24` is a whole multiple of its own spacing (R164). -/
theorem scaledQuotient_one_of_le {n : ℕ} (hn : n ≤ 2 ^ 24) : ∃ k : ℤ, scaledQuotient n 1 = k := by
  obtain rfl | hlt := hn.eq_or_lt
  · refine ⟨2 ^ 23, ?_⟩
    have hstep : exponentStep (2 ^ 24) 1 = 150 := by decide
    rw [scaledQuotient, hstep]
    norm_num
  · have hstep : exponentStep n 1 < 150 := exponentStep_lt (by decide) (by omega)
    obtain ⟨i, hi⟩ := Nat.exists_eq_add_of_le (Nat.lt_succ_iff.1 hstep)
    refine ⟨n * 2 ^ i, ?_⟩
    rw [scaledQuotient, hi, pow_add]
    push_cast
    field_simp

/-- Settles O39: a count of at most `2^24` is not rounded; at `2^24 + 1` both sides are evaluated. -/
theorem singlePrecisionAgreesUpToItsLimit : Obligations.SinglePrecisionAgreesUpToItsLimit := by
  refine ⟨fun us hus => ⟨?_, (toCmBits_eq_rne32 us).symm⟩, by decide, by decide, by decide⟩
  obtain ⟨k, hk⟩ := scaledQuotient_one_of_le hus
  rw [binary32Value_rne32_of_whole one_pos (exponentStep_word_le us one_pos) hk, Nat.cast_one, div_one]

end Sys2Proof.Machine
end

section
/-! X1, the end of a MEASURE command whose echo does not fall (R184), and the one step of INIT (R180). -/

namespace Sys2Proof.Machine

/-- Settles O22: the state R184 names is `microX1`'s. -/
theorem fallingTimeoutStopsTheTimer : Obligations.FallingTimeoutStopsTheTimer := by
  intro s hpc i hi
  obtain ⟨publish, h⟩ := exec_of_measure (s := s) hi
  rw [h]
  simp only [measureStep, hpc]
  rfl

/-- INIT issued to an idle block ends at its first CORE step, its check that of the registers at issue (R180). -/
theorem run_init {s : State} (hidle : s.status.busy = false) :
    runActions [.host (.regWrite 0 0x00000001), .core] s =
      .next (if CfgOk s then finishOk (setInitOk true (latchLimits (startWord 0x00000001 s)))
        else raise .invalidConfig false (setInitOk false (latchLimits (startWord 0x00000001 s)))) := by
  have hissue := perform_write_cmd (w := 0x00000001) (i := .init) rfl hidle
  have hv := (coreTurn_busy (s := startWord 0x00000001 s) rfl rfl).trans (exec_init_at_v rfl)
  exact (runActions_cons hissue).trans (runActions_cons hv)

/-- Settles O40, by whether the check passes. -/
theorem initRunsInOneStep : Obligations.InitRunsInOneStep := by
  intro s hidle
  refine ⟨_, run_init hidle, ?_⟩
  by_cases hcfg : CfgOk s
  · rw [if_pos hcfg]
    exact ⟨rfl, rfl, rfl, rfl, rfl, rfl, fun _ => ⟨rfl, rfl, rfl⟩, fun hnot => absurd hcfg hnot⟩
  · rw [if_neg hcfg]
    exact ⟨rfl, rfl, rfl, rfl, rfl, rfl, fun hok => absurd hok hcfg, fun _ => ⟨rfl, rfl, rfl⟩⟩

end Sys2Proof.Machine
end

section
/-! A MEASURE command without an echo, under the script E1 (R182, R259). -/

namespace Sys2Proof.Machine

theorem runningCommand_of_measure_opcode {i : Instr} {s : State} (hi : i ∈ [Instr.measureUs, .measureCm])
    (h : s.seq.op = opcode i) : runningCommand s = some i :=
  ofOpcode_eq_some h fun level hl => by subst hl; simp at hi

/-- MEASURE command `i` issued to `s`. -/
def measureAtV (i : Instr) (s : State) : State :=
  { s with
    regs.cmd := encode i, seq.op := opcode i, seq.lvl := levelField i, seq.uPC := .v
    status.busy := true, status.state := .idle, status.err := .noError, status.stage := false }

theorem startWord_encode (i : Instr) (s : State) : startWord (encode i) s = measureAtV i s := by
  rw [startWord, opcOf_encode, levelOf_encode]
  rfl

/-- MEASURE command `i` issued to `s` and validated: at T1 with a count. -/
def measureAtT1 (i : Instr) (count : Word) (s : State) : State :=
  { measureAtV i s with
    seq.uPC := .t1, seq.lvl := true, seq.n := triggerCycles s, seq.toCyc := timeoutCycles s
    status.state := .triggering, ext.cyccnt := count }

/-- MEASURE command `i` after its pulse: at W1 of the rising wait, with N and one cycle on the counter. -/
def measureAtW1 (i : Instr) (s : State) : State :=
  { measureAtT1 i (triggerCycles s + 1) s with
    ext.trigLine := false, regs.pinsTrig := false, status.state := .awaitingRisingEdge, seq.uPC := .w1 }

section
variable {i : Instr} {s : State} (hi : i ∈ [Instr.measureUs, .measureCm])
include hi

theorem run_measure_to_t1 (hidle : s.status.busy = false) (hcfg : CfgOk s) (k : Nat) :
    runActions (.host (.regWrite 0 (encode i)) :: scriptE1 (k + 1)) s =
      runActions (scriptE1 k) (measureAtT1 i (s.ext.cyccnt + 1) s) := by
  have hv : exec i { measureAtV i s with ext.cyccnt := s.ext.cyccnt + 1 } =
      .next (measureAtT1 i (s.ext.cyccnt + 1) s) := by
    obtain ⟨publish, h⟩ := exec_of_measure (s := { measureAtV i s with ext.cyccnt := s.ext.cyccnt + 1 }) hi
    exact h.trans (congrArg _ (if_pos hcfg))
  rw [runActions_cons (perform_write_cmd (decode_encode i) hidle), startWord_encode]
  exact runActions_scriptE1_succ (s := measureAtV i s) rfl (runningCommand_of_measure_opcode hi rfl) hv k

/-- V and T1 take a round each, T2 with the wait of N cycles N + 1, and T4 one. -/
theorem run_measure_to_w1 (hidle : s.status.busy = false) (hcfg : CfgOk s) (k : Nat) :
    runActions (.host (.regWrite 0 (encode i)) :: scriptE1 (k + 1 + (triggerCycles s).toNat + 1 + 1 + 1)) s =
      runActions (scriptE1 k) (measureAtW1 i s) := by
  have hpulse := List.mem_cons_of_mem Instr.trigger hi
  have hrunning {x : State} := runningCommand_of_measure_opcode (s := x) hi
  have hn : 1 ≤ (triggerCycles s).toNat := by
    have := (latchedLimitsAreExact s).1 hcfg.1
    omega
  rw [run_measure_to_t1 hi hidle hcfg,
    scriptE1_at_t1 (s := measureAtT1 i (s.ext.cyccnt + 1) s) rfl (hrunning rfl) hpulse rfl]
  have hwait := scriptE1_from_t2_to_t4 (s := measureAtT1 i (s.ext.cyccnt + 1) s) rfl (hrunning rfl) hpulse
    (s.ext.cyccnt + 1 + 1) hn (k + 1)
  exact hwait.trans <| runActions_scriptE1_succ (s := inPulse .t4 (triggerCycles s) (measureAtT1 i (s.ext.cyccnt + 1) s)) rfl
    (hrunning rfl) (exec_measure_at_t4 hi rfl) k

/-- The command at the W3 that reads `2 j + 2` cycles, the line sampled low. -/
def lateMeasure (i : Instr) (j : Nat) (s : State) : State :=
  { inWait .w3 (BitVec.ofNat 32 (2 * j + 1)) (afterW1 (triggerCycles s + 1 + 1) (measureAtW1 i s)) with
    regs.echoSeen := false }

theorem run_measure_to_w3 {j : Nat} (hidle : s.status.busy = false) (hcfg : CfgOk s) (hline : s.ext.echoLine = false)
    (hj : 2 * j ≤ (timeoutCycles s).toNat - 1) (k : Nat) :
    runActions (.host (.regWrite 0 (encode i)) :: scriptE1 ((triggerCycles s).toNat + 2 * j + 6 + k)) s =
      runActions (scriptE1 k) (lateMeasure i j s) := by
  rw [show (triggerCycles s).toNat + 2 * j + 6 + k =
      k + 2 * j + 1 + 1 + 1 + (triggerCycles s).toNat + 1 + 1 + 1 by omega, run_measure_to_w1 hi hidle hcfg]
  have hother : s.ext.echoLine ≠ true := by simp [hline]
  have hwait := scriptE1_from_w1 (s := measureAtW1 i s) rfl (runningCommand_of_measure_opcode hi rfl)
    (List.mem_cons_of_mem _ hi) hother rfl hj k
  have hseen := congrArg (fun seen => runActions (scriptE1 k) { lateMeasure i j s with regs.echoSeen := seen }) hline
  exact hwait.trans hseen

/-- The W3 that reads `2 j + 2` cycles, at least TO_CYC, ends the command (R124). -/
theorem scriptE1_lateMeasure {j : Nat} (hlast : 2 * j + 2 < 2 ^ 32) (hreached : (timeoutCycles s).toNat ≤ 2 * j + 2) :
    runActions (scriptE1 1) (lateMeasure i j s) = .next (raise .timeout false
      { lateMeasure i j s with ext.cyccnt := triggerCycles s + BitVec.ofNat 32 (2 * j + 4) }) := by
  have hcount : (lateMeasure i j s).ext.cyccnt + 1 = triggerCycles s + BitVec.ofNat 32 (2 * j + 4) := by
    change triggerCycles s + 1 + 1 + BitVec.ofNat 32 (2 * j + 1) + 1 = _
    bv_omega
  have hread : (timeoutCycles s).toNat ≤
      (triggerCycles s + BitVec.ofNat 32 (2 * j + 4) - (triggerCycles s + 1 + 1)).toNat := by bv_omega
  refine runActions_scriptE1_succ (s := lateMeasure i j s) rfl (runningCommand_of_measure_opcode hi rfl) ?_ 0
  rw [hcount]
  exact exec_measure_at_w3_late hi rfl hread

end

/-- Settles O46: the pulse is over after N + 4 rounds and W1 takes one, then W2 and W3 take turns; the first W3 that
reads at least TO_CYC is the last step, and the command runs until then. -/
theorem measureWithoutEchoTimesOut : Obligations.MeasureWithoutEchoTimesOut := by
  intro s n bound steps hidle hcfg hn hbound hfits hline hsteps i hi
  have ⟨hclk, _, hto⟩ := hcfg
  obtain rfl : n = (triggerCycles s).toNat := hn.trans (toNat_triggerCycles hclk).symm
  have htoCyc : (timeoutCycles s).toNat = bound := (toNat_timeoutCycles hto).trans hbound.symm
  obtain ⟨j, hj, hreached, rfl⟩ : ∃ j, 2 * j ≤ bound - 1 ∧ bound ≤ 2 * j + 2 ∧
      steps = (triggerCycles s).toNat + 2 * j + 6 + 1 :=
    ⟨max 1 ((bound + 1) / 2) - 1, by omega, by omega, by omega⟩
  have hrun := run_measure_to_w3 (j := j) hi hidle hcfg hline (htoCyc ▸ hj)
  constructor
  case left =>
    intro k hk
    obtain ⟨d, hd⟩ := Nat.exists_eq_add_of_le (Nat.le_of_lt_succ hk)
    have hw3 := hrun 0
    rw [runActions_cons (perform_write_cmd (decode_encode _) hidle)] at hw3 ⊢
    rw [Nat.add_zero, hd] at hw3
    exact busy_within_scriptE1 hw3 rfl
  case right =>
    rw [hrun 1, scriptE1_lateMeasure hi (by omega) (htoCyc ▸ hreached)]
    have hword : BitVec.ofNat 32 bound = timeoutCycles s := by rw [← htoCyc, BitVec.ofNat_toNat, BitVec.setWidth_eq]
    have hlimit : BitVec.ofNat 32 (triggerCycles s).toNat = triggerCycles s := by
      rw [BitVec.ofNat_toNat, BitVec.setWidth_eq]
    have hstart : BitVec.ofNat 32 ((triggerCycles s).toNat + 2) = triggerCycles s + 1 + 1 := by bv_omega
    have hcount : BitVec.ofNat 32 ((triggerCycles s).toNat + 2 * j + 6 + 1 - 3) =
        triggerCycles s + BitVec.ofNat 32 (2 * j + 4) := by bv_omega
    rw [hword, hlimit, hstart, hcount]
    rfl

end Sys2Proof.Machine
end

section
/-! What RESULT_TICKS of a MEASURE command counts (R141 to R143, R186). -/

namespace Sys2Proof.Machine

/-- The labels at which a micro-step moves the timer (R140 to R142, R184). -/
def timerLabels : List Label := [.s1, .s2, .p1, .x1]

/-- Command `i` runs at a tick rate, and the timer stands so (R73, R46). -/
structure Timing (i : Instr) (rate : Word) (running : Bool) (ticks : Nat) (s : State) : Prop where
  inv : BlockInv s
  command : runningCommand s = some i
  tickHz : s.regs.tickHz = rate
  timer : TimerAt running ticks s.ext

theorem TimerAt.after_tmr {k ticks : Nat} {running : Bool} {s : State} (h : TimerAt running ticks s.ext) :
    TimerAt running (ticks + if running then k else 0) (envStep (.tmr k) s).ext := by
  refine ⟨(envStep_tmrRun _ s).trans h.run, ?_⟩
  cases running with
  | true => simp [envStep, h.run, h.count, BitVec.ofNat_add]
  | false => simp [envStep, h.run, h.count]

/-- While a command runs, of the actions of the other agents only a timer step moves the timer (R68, R73). -/
theorem other_turn_timer {a : AgentAction} {s t : State} {running : Bool} {ticks : Nat} (hcore : a ≠ .core)
    (hbusy : s.status.busy = true) (h : perform a s = .next t) (hruns : t.status.busy = true)
    (htimer : TimerAt running ticks s.ext) : TimerAt running (ticks + if running then tmrAdvance a else 0) t.ext := by
  have hstill : ticks + (if running then 0 else 0) = ticks := by rw [ite_self, Nat.add_zero]
  cases a with
  | core => exact absurd rfl hcore
  | env e =>
    cases h
    cases e with
    | tmr k => exact htimer.after_tmr
    | cyc k | echo b => simpa only [tmrAdvance, hstill] using ⟨htimer.run, htimer.count⟩
  | host x =>
    obtain ⟨-, -, hext, -, -⟩ := hostAccess_undisturbed hbusy h
    simpa only [tmrAdvance, hstill, hext] using htimer
  | program =>
    obtain ⟨-, -, hext, -, -⟩ := hostTurn_undisturbed hbusy (.inl rfl) h
    simpa only [tmrAdvance, hstill, hext] using htimer
  | reset => cases h; cases hruns

section
variable {i : Instr} {rate : Word} {running : Bool} {ticks : Nat} {s t : State}

theorem Timing.core_eq (h : Timing i rate running ticks s) (hbusy : s.status.busy = true)
    (hp : perform .core s = .next t) : t = microStep i s := by
  obtain ⟨hidle, -⟩ | ⟨j, -, hj, -, rfl⟩ := coreTurn_cases hp
  · rw [hbusy] at hidle; cases hidle
  · cases hj.symm.trans h.command
    rfl

/-- Of CORE's steps only S1 moves the timer's count (R140). -/
theorem Timing.core {running' : Bool} (h : Timing i rate running ticks s) (hbusy : s.status.busy = true)
    (hp : perform .core s = .next t) (hs1 : s.seq.uPC ≠ .s1) (hruns : t.ext.tmrRun = running') :
    Timing i rate running' ticks t := by
  obtain rfl := h.core_eq hbusy hp
  refine ⟨microStep_keeps_blockInv h.inv hbusy h.command, microStep_runningCommand h.command, ?_, hruns, ?_⟩
  · rw [microStep_regs]; exact h.tickHz
  · rw [microStep_ext]; exact (if_neg hs1).trans h.timer.count

/-- A CORE step elsewhere keeps a timer running or stopped as it is. -/
theorem microStep_tmrRun_of_other_label (hpc : s.seq.uPC ∉ timerLabels) :
    (microStep i s).ext.tmrRun = s.ext.tmrRun := by
  simp only [timerLabels, List.mem_cons, List.not_mem_nil, or_false, not_or] at hpc
  simp [microStep_ext, hpc]

theorem Timing.next {a : AgentAction} (h : Timing i rate running ticks s) (hbusy : s.status.busy = true)
    (hp : perform a s = .next t) (hruns : t.status.busy = true) (hkeeps : a = .core → s.seq.uPC ∉ timerLabels) :
    Timing i rate running (ticks + if running then tmrAdvance a else 0) t := by
  by_cases hcore : a = .core
  · subst hcore
    have hpc := hkeeps rfl
    have hs1 : s.seq.uPC ≠ .s1 := fun hs1 => hpc (by simp [hs1, timerLabels])
    have hsame : t.ext.tmrRun = running := by
      rw [h.core_eq hbusy hp, microStep_tmrRun_of_other_label hpc, h.timer.run]
    simpa only [tmrAdvance, ite_self, Nat.add_zero] using h.core hbusy hp hs1 hsame
  · obtain ⟨hseq, -⟩ := other_turn_while_busy hcore hbusy hp hruns
    have hregs := other_turn_keeps_regs hcore hbusy hp hruns
    exact ⟨turn_keeps_blockInv h.inv (turn_of_perform hp), by rw [runningCommand, hseq]; exact h.command,
      by rw [hregs]; exact h.tickHz, other_turn_timer hcore hbusy hp hruns h.timer⟩

/-- A run within labels at which no CORE step moves the timer and stays advances a running timer's count by what ENV
advances it. -/
theorem Timing.run {as : List AgentAction} {ls : List Label} (h : Timing i rate running ticks s) (hbot : .bot ∉ ls)
    (hkeeps : ∀ x, x.seq.uPC ∈ ls → (microStep i x).seq.uPC ∈ ls → x.seq.uPC ∉ timerLabels)
    (hstays : StaysIn (fun x => x.seq.uPC ∈ ls) as s) (hrun : runActions as s = .next t) :
    Timing i rate running (ticks + if running then (as.map tmrAdvance).sum else 0) t := by
  induction as generalizing s ticks with
  | nil => cases hrun; simpa using h
  | cons a rest ih =>
    obtain ⟨hs, s', hp, hrest⟩ := hstays
    rw [runActions_cons hp] at hrun
    have hs' := hrest.start
    have hbusy := busy_of_label h.inv hs hbot
    have hruns := busy_of_label (turn_keeps_blockInv h.inv (turn_of_perform hp)) hs' hbot
    have hnext := h.next hbusy hp hruns fun ha => hkeeps s hs (h.core_eq hbusy (ha ▸ hp) ▸ hs')
    have hend := ih hnext hrest hrun
    cases running with
    | true => simpa [Nat.add_assoc] using hend
    | false => simpa using hend

end

theorem StaysIn.last {P : State → Prop} {as : List AgentAction} {s t : State} (h : StaysIn P as s)
    (hrun : runActions as s = .next t) : P t := by
  induction as generalizing s with
  | nil => cases hrun; exact h
  | cons a rest ih =>
    obtain ⟨-, s', hp, hrest⟩ := h
    exact ih hrest ((runActions_cons hp).symm.trans hrun)

section
variable {i : Instr} {rate : Word} {running : Bool} {ticks : Nat} {s t : State}

theorem Timing.busy (h : Timing i rate running ticks s) {l : Label} (hpc : s.seq.uPC = l) (hbot : l ≠ .bot) :
    s.status.busy = true :=
  h.inv.busy_iff.2 (hpc ▸ hbot)

/-- S2 starts the timer on the count it finds (R141). -/
theorem Timing.after_s2 (h : Timing i rate running ticks s) (hpc : s.seq.uPC = .s2)
    (hp : perform .core s = .next t) : Timing i rate true ticks t := by
  have hbusy := h.busy hpc (by decide)
  exact h.core hbusy hp (by simp [hpc]) (by simp [h.core_eq hbusy hp, microStep_ext, hpc])

/-- P1 stops the timer at its count (R142). -/
theorem Timing.after_p1 (h : Timing i rate running ticks s) (hpc : s.seq.uPC = .p1)
    (hp : perform .core s = .next t) : Timing i rate false ticks t := by
  have hbusy := h.busy hpc (by decide)
  exact h.core hbusy hp (by simp [hpc]) (by simp [h.core_eq hbusy hp, microStep_ext, hpc])

/-- In the falling wait the only label that moves the timer is P1, which leads to P2. -/
theorem falling_wait_keeps_timer (hs : s.seq.uPC ∈ [Label.w1, .w2, .w3, .p1])
    (ht : (microStep i s).seq.uPC ∈ [Label.w1, .w2, .w3, .p1]) : s.seq.uPC ∉ timerLabels := by
  have hothers : ∀ l ∈ [Label.w1, .w2, .w3, .p1], l ≠ .p1 → l ∉ timerLabels := by decide
  exact hothers _ hs fun hpc => by simp [microStep, verdict, hpc, onTo, Verdict.act] at ht

/-- P2 publishes the count and ends the command (R143, R183). -/
theorem Timing.after_p2 (h : Timing i rate running ticks s) (hpc : s.seq.uPC = .p2)
    (hp : perform .core s = .next t) :
    t.regs.resultTicks = BitVec.ofNat 32 ticks ∧ t.regs.resultUs = toUs rate (BitVec.ofNat 32 ticks) ∧
    (i = .measureCm → t.regs.resultCm = toCmBits t.regs.resultUs) ∧
    (i = .measureUs → t.regs.resultCm = s.regs.resultCm) ∧
    t.status.busy = false ∧ t.status.err = .noError ∧ t.ext.tmrRun = running := by
  obtain rfl := h.core_eq (h.busy hpc (by decide)) hp
  have hread : zextCount s.ext.tmrCnt = BitVec.ofNat 32 ticks := (BitVec.setWidth_eq _).trans h.timer.count
  have hends : (microStep i s).status = (finishOk (effect i s)).status := by simp only [microStep, verdict, hpc]; rfl
  rw [hends, microStep_regs, microStep_ext, hread, h.tickHz]
  simp only [hpc, if_true, true_and, reduceCtorEq, if_false]
  exact ⟨fun hi => if_pos hi, fun hi => if_neg (by simp [hi]), rfl, rfl, by simpa using h.timer.run⟩

end

/-- Settles O50: from S2 to P1 the timer runs and ENV's steps add to its count, and after P1 none does. -/
theorem measuredTicksAreTheTimerAdvances : Obligations.MeasuredTicksAreTheTimerAdvances := by
  intro i s s1 t u v z as bs ticks _ hinv hi hpc hticks hs2 hfalling hrun htpc hp1 hstopped hrun' hp2
  subst hticks
  have hstart : Timing i s.regs.tickHz s.ext.tmrRun s.ext.tmrCnt.toNat s := ⟨hinv, hi, rfl, timerAt_self s.ext⟩
  have htiming := (hstart.after_s2 hpc hs2).run (by decide) (fun _ => falling_wait_keeps_timer) hfalling hrun
  have hread := (htiming.after_p1 htpc hp1).run (ls := [.p2]) (by decide)
    (fun x hx _ => by rw [List.mem_singleton.1 hx]; decide) (by simpa only [List.mem_singleton] using hstopped) hrun'
  exact hread.after_p2 (hstopped.last hrun') hp2

end Sys2Proof.Machine
end

section
/-! The seconds each stage of a command may take, and the deadline they add up to (R185). -/

namespace Sys2Proof.Machine

/-- The seconds a stage may take from the CORE step that leads to it: one latency, and at T3 the pulse, at W2 and W3 the
wait's bound and a second latency. Stages are counted as in `stagesLeft`; `c` holds the configuration. -/
noncomputable def stageSeconds (f δ : ℝ) (c : State) (k : Nat) : ℝ :=
  if k = 9 then (triggerCycles c).toNat / f + δ
  else if k = 6 ∨ k = 2 then (timeoutCycles c).toNat / f + 2 * δ
  else δ

/-- The seconds within which a command has left the stage `k`: what that stage and those before it may take. -/
noncomputable def deadline (f δ : ℝ) (c : State) (k : Nat) : ℝ := ∑ j ∈ Finset.Ico k 13, stageSeconds f δ c j

section
variable {f δ : ℝ} {c : State} {k l : Nat} (hf : 0 ≤ f) (hδ : 0 ≤ δ)
include hf hδ

theorem latency_le_stageSeconds (k : Nat) : δ ≤ stageSeconds f δ c k := by
  have hpulse : 0 ≤ ((triggerCycles c).toNat : ℝ) / f := by positivity
  have hwait : 0 ≤ ((timeoutCycles c).toNat : ℝ) / f := by positivity
  unfold stageSeconds
  split_ifs <;> linarith

theorem deadline_anti (hlk : l ≤ k) : deadline f δ c k ≤ deadline f δ c l :=
  Finset.sum_le_sum_of_subset_of_nonneg (Finset.Ico_subset_Ico_left hlk)
    fun j _ _ => hδ.trans (latency_le_stageSeconds hf hδ j)

/-- A later stage is left a stage's seconds after the deadline of an earlier one. -/
theorem deadline_add_le (hlk : l < k) (hl : l < 13) :
    deadline f δ c k + stageSeconds f δ c l ≤ deadline f δ c l := by
  have hsplit : deadline f δ c l = stageSeconds f δ c l + deadline f δ c (l + 1) :=
    Finset.sum_eq_sum_Ico_succ_bot hl _
  have hanti := deadline_anti (c := c) hf hδ (Nat.succ_le_of_lt hlk)
  linarith

theorem deadline_le (k : Nat) : deadline f δ c k ≤
    ((triggerCycles c).toNat + 2 * (timeoutCycles c).toNat + 3) / f + 15 * δ := by
  have htotal : deadline f δ c 0 =
      (triggerCycles c).toNat / f + 2 * ((timeoutCycles c).toNat / f) + 15 * δ := by
    simp only [deadline, Finset.sum_Ico_succ_top, Nat.zero_le, Finset.Ico_self, Finset.sum_empty, stageSeconds]
    norm_num
    ring
  have hslack : (0 : ℝ) ≤ 3 / f := by positivity
  have hanti := deadline_anti (c := c) hf hδ (Nat.zero_le k)
  rw [add_div, add_div, mul_div_assoc]
  linarith

end

theorem stagesLeft_lt (q : Sequencer) : stagesLeft q < 13 := by
  by_cases hv : q.uPC = .v
  · simp [stagesLeft, hv]
  · exact (stagesLeft_lt_of_ne_v hv).trans (by decide)

end Sys2Proof.Machine
end

section
/-! The busy-waits of a command: where they begin, their limits, and their seconds (R103, R104, R122 to R124, R185). -/

namespace Sys2Proof.Machine

/-- The labels of the busy-waits (R104, R123, R124). -/
def waitLabels : List Label := [.t3, .w2, .w3]

/-- A busy-wait is reached from its own labels, or begins after T2 or W1. -/
theorem moves_to_wait {i : Instr} {s : State} {p : Phase} {b : Bool} {l : Label} (h : Moves i s p b l)
    (hl : l ∈ waitLabels) :
    (s.seq.uPC, l) ∈ waitMoves ∧ b = s.seq.lvl ∨ s.seq.uPC = .t2 ∧ l = .t3 ∨ s.seq.uPC = .w1 ∧ l = .w2 := by
  cases h with
  | validated pc first =>
    unfold verdictAtV at first
    cases i <;> grind [onTo, waitLabels]
  | quiet move =>
    have : ∀ q ∈ quietMoves, q.2 ∈ waitLabels →
        q ∈ waitMoves ∨ q.1 = .t2 ∧ q.2 = .t3 ∨ q.1 = .w1 ∧ q.2 = .w2 := by decide
    exact (this _ move hl).imp_left fun hmove => ⟨hmove, rfl⟩
  | pulseDone | rose | timing | fell | late => simp [waitLabels] at hl

/-- A CORE step that leads to a busy-wait goes on with it, or begins it with nothing measured yet. -/
theorem core_waits_or_begins {s t : State} (hbusy : s.status.busy = true) (h : perform .core s = .next t)
    (hruns : t.status.busy = true) (hwait : t.seq.uPC ∈ waitLabels) : Waits s t ∨ waited t = 0 := by
  obtain ⟨hidle, -⟩ | ⟨i, -, -, -, rfl⟩ := coreTurn_cases h
  · rw [hbusy] at hidle; cases hidle
  obtain ⟨p, b, l, hv⟩ := verdict_of_busy hruns
  have hpc : (microStep i s).seq.uPC = l := by rw [microStep, hv]; rfl
  obtain ⟨hmove, hlvl⟩ | ⟨ht2, rfl⟩ | ⟨hw1, rfl⟩ := moves_to_wait (moves_of_verdict hv) (hpc ▸ hwait)
  · exact .inl (waits_of_verdict hv hmove hlvl)
  · exact .inr (by simp [waited, hpc, microStep_ext, ht2])
  · exact .inr (by simp [waited, hpc, microStep_ext, microStep_c0, hw1])

/-- Going on with a busy-wait changes neither what it has measured nor its bound. -/
theorem Waits.keeps_wait {s t : State} (h : Waits s t) : waited t = waited s ∧ waitBound t = waitBound s := by
  have hsame : ∀ q ∈ waitMoves, q.2 = .t3 ↔ q.1 = .t3 := by decide
  simp only [waited, waitBound, hsame _ h.move, h.n, h.toCyc, h.c0, h.cyccnt, and_self]

/-- Another agent's step adds its advance of the counter to what a busy-wait has measured. -/
theorem other_turn_waited {a : AgentAction} {s t : State} (hcore : a ≠ .core) (hbusy : s.status.busy = true)
    (h : perform a s = .next t) (hruns : t.status.busy = true) :
    waited t = waited s + BitVec.ofNat 32 (cycAdvance a) ∧ waitBound t = waitBound s := by
  obtain ⟨hseq, hcount⟩ := other_turn_while_busy hcore hbusy h hruns
  simp only [waited, waitBound, hseq, hcount, and_true]
  split
  · rfl
  · exact BitVec.add_sub_comm

/-- In a busy-wait the clock is at least 1 MHz, and the latches hold the limits of the configuration. -/
theorem BlockInv.limits_in_wait {s : State} (h : BlockInv s) (hs : s.seq.uPC ∈ waitLabels) :
    ClkOk s ∧ s.seq.n = triggerCycles s ∧ s.seq.toCyc = timeoutCycles s := by
  have hlabels : ∀ l ∈ waitLabels, l ≠ .v ∧ (l ∈ [Label.t1, .t2, .t3, .t4] ∨ l ∈ [Label.w1, .w2, .w3]) := by decide
  obtain ⟨hv, hgroup⟩ := hlabels _ hs
  obtain ⟨i, -, hr⟩ := h.running (busy_of_label h hs (by decide))
  obtain ⟨-, hlimits⟩ := hr.checked hv
  refine ⟨(clkOk_iff s).2 ?_, hlimits⟩
  obtain hpulse | hwait := hgroup
  · exact (h.pulse_limit hpulse).1
  · exact (h.wait_limit hwait).1

/-- A latency, and at W2 and W3 a second one: W3 comes every two steps (R185). -/
noncomputable def waitSlack (δ : ℝ) (l : Label) : ℝ := if l = .t3 then δ else 2 * δ

theorem latency_le_waitSlack {δ : ℝ} (hδ : 0 ≤ δ) (l : Label) : (if l = .w3 then δ else 0) + δ ≤ waitSlack δ l := by
  unfold waitSlack
  split_ifs with hw3 ht3
  · rw [hw3] at ht3; cases ht3
  all_goals linarith

/-- A busy-wait's stage may take its bound and its slack. -/
theorem stageSeconds_of_wait {f δ : ℝ} {c s : State} (hs : s.seq.uPC ∈ waitLabels)
    (hn : s.seq.n = triggerCycles c) (htoCyc : s.seq.toCyc = timeoutCycles c) :
    stageSeconds f δ c (stagesLeft s.seq) = (waitBound s).toNat / f + waitSlack δ s.seq.uPC := by
  simp only [waitLabels, List.mem_cons, List.not_mem_nil, or_false] at hs
  obtain hpc | hpc | hpc := hs
  · simp [stageSeconds, stagesLeft, waitBound, waitSlack, hpc, hn]
  all_goals cases hlvl : s.seq.lvl <;> simp [stageSeconds, stagesLeft, waitBound, waitSlack, hpc, hlvl, htoCyc]

/-- No busy-wait's counter wraps within its seconds (R185, R252). -/
theorem wait_fits {f δ : ℝ} {s : State} (hf : 0 ≤ f) (hδ : 0 ≤ δ) (hclk : ClkOk s) (hn : s.seq.n = triggerCycles s)
    (hfits : (s.seq.toCyc.toNat : ℝ) + 2 * δ * f + 1 < 2 ^ 32) :
    (waitBound s).toNat + f * waitSlack δ s.seq.uPC + 1 < 2 ^ 32 := by
  have hδf : 0 ≤ δ * f := mul_nonneg hδ hf
  unfold waitBound waitSlack
  split
  · have hsmall : ((triggerCycles s).toNat : ℝ) ≤ 42940 := by
      exact_mod_cast ((latchedLimitsAreExact s).1 hclk).2.2
    have hpos : (0 : ℝ) ≤ s.seq.toCyc.toNat := Nat.cast_nonneg _
    rw [hn]
    linarith
  · linarith

end Sys2Proof.Machine
end

section
/-! A running command keeps its deadlines under ideal clocks and a latency (R76, R185). -/

namespace Sys2Proof.Machine

theorem core_keeps_config {s t : State} (h : perform .core s = .next t) :
    t.regs.clkHz = s.regs.clkHz ∧ t.regs.timeoutUs = s.regs.timeoutUs := by
  obtain ⟨-, rfl⟩ | ⟨i, -, -, -, rfl⟩ := coreTurn_cases h
  · exact ⟨rfl, rfl⟩
  · rw [microStep_regs]; exact ⟨rfl, rfl⟩

/-- What makes an idle block busy is an issue: it starts a command at V and leaves the configuration (R93). -/
theorem issued_of_busy {a : AgentAction} {s t : State} (hidle : s.status.busy = false) (h : perform a s = .next t)
    (hruns : t.status.busy = true) :
    t.seq.uPC = .v ∧ t.regs.clkHz = s.regs.clkHz ∧ t.regs.timeoutUs = s.regs.timeoutUs := by
  cases turn_of_perform h with
  | quiet same => rw [same.status, hidle] at hruns; cases hruns
  | command busy => rw [hidle] at busy; cases busy
  | environment e => rw [envStep_status, hidle] at hruns; cases hruns
  | reset => cases hruns
  | @write _ s' i v same =>
    have hidle' : s'.status.busy = false := same.status ▸ hidle
    obtain heq | ⟨hbusy, -⟩ | ⟨-, heq | heq | heq | heq | heq⟩ := regWrite_cases i v s'
    case inr.inl => rw [hidle'] at hbusy; cases hbusy
    case inr.inr.inl =>
      rw [heq] at hruns ⊢
      unfold issue at hruns ⊢
      split at hruns
      · simp [same.regs]
      · simp [hidle'] at hruns
    all_goals simp [heq, hidle'] at hruns

/-- The premises of R185 about a command that is issued at step `a` and takes a CORE step at step `m`, with the true
CLK_HZ written. -/
structure TimedCommand (f g δ : ℝ) (σ : Nat → AgentAction) (ρ : Nat → State) (τ : Nat → ℝ) (a m : Nat) : Prop where
  run : IsRun σ ρ
  clocks : IdealClocks f g σ ρ τ
  latency : Latency δ σ ρ τ
  inv : BlockInv (ρ a)
  clk : ((ρ a).regs.clkHz.toNat : ℝ) = f
  idle : (ρ a).status.busy = false
  busy : ∀ c, a < c → c ≤ m → (ρ c).status.busy = true
  before : a < m
  core : σ m = .core
  fits : ((timeoutCycles (ρ a)).toNat : ℝ) + 2 * δ * f + 1 < 2 ^ 32

/-- The busy-wait in which step `n` finds the command began at step `p`, in time; the last CORE step is `j`, and it came
within the wait's bound, or a latency later where W3 is next. -/
structure WaitsSince (f δ : ℝ) (σ : Nat → AgentAction) (ρ : Nat → State) (τ : Nat → ℝ) (a p j n : Nat) : Prop where
  before : p ≤ j
  began : τ p + stageSeconds f δ (ρ a) (stagesLeft (ρ n).seq) ≤ τ a + deadline f δ (ρ a) (stagesLeft (ρ n).seq)
  counted : waited (ρ n) = BitVec.ofNat 32 (∑ k ∈ Finset.Ico (p + 1) n, cycAdvance (σ k))
  within : τ j - τ p ≤ (waitBound (ρ n)).toNat / f + if (ρ n).seq.uPC = .w3 then δ else 0

/-- Where a command issued at step `a` stands at step `n`, its last CORE step or its issue being step `j`: its next CORE
step is in time if it comes within the latency. -/
structure OnSchedule (f δ : ℝ) (σ : Nat → AgentAction) (ρ : Nat → State) (τ : Nat → ℝ) (a j n : Nat) : Prop where
  inv : BlockInv (ρ n)
  clkHz : (ρ n).regs.clkHz = (ρ a).regs.clkHz
  timeoutUs : (ρ n).regs.timeoutUs = (ρ a).regs.timeoutUs
  issued : a ≤ j
  before : j < n
  source : σ j = .core ∨ (ρ j).status.busy = false
  quiet : ∀ c, j < c → c < n → σ c ≠ .core
  inTime : τ j + δ ≤ τ a + deadline f δ (ρ a) (stagesLeft (ρ n).seq)
  waiting : (ρ n).seq.uPC ∈ waitLabels → ∃ p, WaitsSince f δ σ ρ τ a p j n

/-- Up to a CORE step the counter advances by its rate times the seconds since step `p`, to within 1 (R76). -/
theorem IdealClocks.advance_near {f g : ℝ} {σ : Nat → AgentAction} {ρ : Nat → State} {τ : Nat → ℝ} {p n : Nat}
    (h : IdealClocks f g σ ρ τ) (hpn : p < n) (hcore : σ n = .core) :
    (∑ k ∈ Finset.Ico (p + 1) n, cycAdvance (σ k) : ℕ) < f * (τ n - τ p) + 1 ∧
    f * (τ n - τ p) < (∑ k ∈ Finset.Ico (p + 1) n, cycAdvance (σ k) : ℕ) + 1 := by
  have hsum : ∑ k ∈ Finset.Ioc p n, cycAdvance (σ k) = ∑ k ∈ Finset.Ico (p + 1) n, cycAdvance (σ k) := by
    have hIoc : Finset.Ioc p n = Finset.Ico (p + 1) (n + 1) := by
      ext k
      simp only [Finset.mem_Ioc, Finset.mem_Ico]
      omega
    rw [hIoc, Finset.sum_Ico_succ_top hpn, hcore]
    rfl
  have hfloor := h.cyc p n hpn.le
  rw [hsum] at hfloor
  have hreal : ((∑ k ∈ Finset.Ico (p + 1) n, cycAdvance (σ k) : ℕ) : ℝ) = (⌊f * τ n⌋ : ℝ) - (⌊f * τ p⌋ : ℝ) := by
    exact_mod_cast hfloor
  have hlow := Int.floor_le (f * τ n)
  have hhigh := Int.lt_floor_add_one (f * τ n)
  have hlow' := Int.floor_le (f * τ p)
  have hhigh' := Int.lt_floor_add_one (f * τ p)
  rw [hreal, mul_sub]
  constructor <;> linarith

section
variable {f g δ : ℝ} {σ : Nat → AgentAction} {ρ : Nat → State} {τ : Nat → ℝ} {a m j n : Nat}
  (h : TimedCommand f g δ σ ρ τ a m)
include h

theorem TimedCommand.rate_nonneg : 0 ≤ f := h.clk ▸ Nat.cast_nonneg _

/-- The latency bounds the first CORE step of the command, and time does not run back. -/
theorem TimedCommand.latency_nonneg : 0 ≤ δ := by
  have hexists : ∃ c, a < c ∧ σ c = .core := ⟨m, h.before, h.core⟩
  obtain ⟨hafter, hcore⟩ := Nat.find_spec hexists
  have hle := Nat.find_min' hexists ⟨h.before, h.core⟩
  have hsoon := h.latency a (Nat.find hexists) hafter (fun c hac hc => h.busy c hac (hc.trans hle)) (.inr h.idle) hcore
    fun c hac hc hcore => Nat.find_min hexists hc ⟨hac, hcore⟩
  have hlater := h.clocks.mono _ _ hafter.le
  linarith

theorem OnSchedule.core_soon (hs : OnSchedule f δ σ ρ τ a j n) (hn : n ≤ m) (hcore : σ n = .core) :
    τ n ≤ τ j + δ := by
  have hissued := hs.issued
  have := h.latency j n hs.before (fun c hjc hcn => h.busy c (by omega) (by omega)) hs.source hcore hs.quiet
  linarith

theorem onSchedule_of_issue (hbusy : (ρ (a + 1)).status.busy = true) : OnSchedule f δ σ ρ τ a a (a + 1) := by
  obtain ⟨hpc, hclk, hto⟩ := issued_of_busy h.idle (h.run a) hbusy
  have hfirst := deadline_add_le (c := ρ a) h.rate_nonneg h.latency_nonneg (stagesLeft_lt (ρ (a + 1)).seq)
    (stagesLeft_lt _)
  have hlatency := latency_le_stageSeconds (c := ρ a) h.rate_nonneg h.latency_nonneg (stagesLeft (ρ (a + 1)).seq)
  have hnone : deadline f δ (ρ a) 13 = 0 := by simp [deadline]
  exact {
    inv := turn_keeps_blockInv h.inv (turn_of_perform (h.run a))
    clkHz := hclk
    timeoutUs := hto
    issued := le_rfl
    before := Nat.lt_succ_self a
    source := .inr h.idle
    quiet := by omega
    inTime := by linarith
    waiting := by simp [hpc, waitLabels] }

/-- In a busy-wait: the rate, and the stage's seconds as the wait's own. -/
theorem TimedCommand.wait_seconds {x : State} (hinv : BlockInv x) (hclkHz : x.regs.clkHz = (ρ a).regs.clkHz)
    (htimeoutUs : x.regs.timeoutUs = (ρ a).regs.timeoutUs) (hwait : x.seq.uPC ∈ waitLabels) :
    0 < f ∧ stageSeconds f δ (ρ a) (stagesLeft x.seq) = (waitBound x).toNat / f + waitSlack δ x.seq.uPC ∧
    (waitBound x).toNat + f * waitSlack δ x.seq.uPC + 1 < 2 ^ 32 := by
  obtain ⟨hclk, hn, htoCyc⟩ := hinv.limits_in_wait hwait
  have htoCyc' := htoCyc.trans (timeoutCycles_congr hclkHz htimeoutUs)
  have hpos : 0 < f := by
    have hmega := (clkOk_iff _).1 hclk
    rw [hclkHz] at hmega
    rw [← h.clk]
    exact_mod_cast (show 0 < (ρ a).regs.clkHz.toNat by omega)
  exact ⟨hpos, stageSeconds_of_wait hwait (hn.trans (triggerCycles_congr hclkHz)) htoCyc',
    wait_fits hpos.le h.latency_nonneg hclk hn (htoCyc' ▸ h.fits)⟩

/-- A sample below the bound comes within the bound's seconds, since the counter has not wrapped. -/
theorem WaitsSince.sample_within {p : Nat} (hw : WaitsSince f δ σ ρ τ a p j n) (hs : OnSchedule f δ σ ρ τ a j n)
    (hn : n ≤ m) (hcore : σ n = .core) (hwait : (ρ n).seq.uPC ∈ waitLabels)
    (hbelow : waited (ρ n) < waitBound (ρ n)) : τ n - τ p ≤ (waitBound (ρ n)).toNat / f := by
  obtain ⟨hpos, -, hfits⟩ := h.wait_seconds hs.inv hs.clkHz hs.timeoutUs hwait
  obtain ⟨hupper, hlower⟩ := h.clocks.advance_near (show p < n from hw.before.trans_lt hs.before) hcore
  have hslack := latency_le_waitSlack h.latency_nonneg (ρ n).seq.uPC
  have hsoon := hs.core_soon h hn hcore
  have hwithin := hw.within
  have helapsed : f * (τ n - τ p) ≤ (waitBound (ρ n)).toNat + f * waitSlack δ (ρ n).seq.uPC :=
    calc f * (τ n - τ p) ≤ f * ((waitBound (ρ n)).toNat / f + waitSlack δ (ρ n).seq.uPC) :=
          mul_le_mul_of_nonneg_left (by linarith) hpos.le
      _ = (waitBound (ρ n)).toNat + f * waitSlack δ (ρ n).seq.uPC := by rw [mul_add, mul_div_cancel₀ _ hpos.ne']
  have hnowrap : ∑ k ∈ Finset.Ico (p + 1) n, cycAdvance (σ k) < 2 ^ 32 := by
    exact_mod_cast (by linarith : ((∑ k ∈ Finset.Ico (p + 1) n, cycAdvance (σ k) : ℕ) : ℝ) < 2 ^ 32)
  rw [hw.counted, BitVec.lt_def, BitVec.toNat_ofNat, Nat.mod_eq_of_lt hnowrap] at hbelow
  have hreal : ((∑ k ∈ Finset.Ico (p + 1) n, cycAdvance (σ k) : ℕ) : ℝ) + 1 ≤ (waitBound (ρ n)).toNat := by
    exact_mod_cast hbelow
  rw [le_div_iff₀ hpos]
  linarith

/-- A step of another agent changes neither the stage nor the last CORE step. -/
theorem OnSchedule.other (hs : OnSchedule f δ σ ρ τ a j n) (hn : n < m) (hcore : σ n ≠ .core) :
    OnSchedule f δ σ ρ τ a j (n + 1) := by
  have hissued := hs.issued
  have hbefore := hs.before
  have hbusy := h.busy n (by omega) hn.le
  have hruns := h.busy (n + 1) (by omega) hn
  obtain ⟨hseq, -⟩ := other_turn_while_busy hcore hbusy (h.run n) hruns
  obtain ⟨hwaited, hbound⟩ := other_turn_waited hcore hbusy (h.run n) hruns
  have hregs := other_turn_keeps_regs hcore hbusy (h.run n) hruns
  constructor
  case inv => exact turn_keeps_blockInv hs.inv (turn_of_perform (h.run n))
  case clkHz => rw [hregs, hs.clkHz]
  case timeoutUs => rw [hregs, hs.timeoutUs]
  case issued => exact hissued
  case before => omega
  case source => exact hs.source
  case quiet =>
    intro c hjc hcn
    obtain hlt | rfl := Nat.lt_succ_iff_lt_or_eq.1 hcn
    · exact hs.quiet c hjc hlt
    · exact hcore
  case inTime => rw [hseq]; exact hs.inTime
  case waiting =>
    intro hwait
    obtain ⟨p, hp, hbegan, hcounted, hwithin⟩ := hs.waiting (hseq ▸ hwait)
    refine ⟨p, hp, by rwa [hseq], ?_, by rwa [hbound, hseq]⟩
    rw [hwaited, hcounted, Finset.sum_Ico_succ_top (by omega), BitVec.ofNat_add]

/-- A CORE step that goes on with a busy-wait comes within the wait's bound, or a latency later where it is W2. -/
theorem WaitsSince.core {p : Nat} (hw : WaitsSince f δ σ ρ τ a p j n) (hs : OnSchedule f δ σ ρ τ a j n)
    (hn : n ≤ m) (hcore : σ n = .core) (hwait : (ρ n).seq.uPC ∈ waitLabels) (hgoesOn : Waits (ρ n) (ρ (n + 1))) :
    WaitsSince f δ σ ρ τ a p n (n + 1) := by
  obtain ⟨hwaited, hbound⟩ := hgoesOn.keeps_wait
  have hpn : p < n := hw.before.trans_lt hs.before
  have hδ := h.latency_nonneg
  constructor
  case before => exact hpn.le
  case began => rw [hgoesOn.stagesLeft_eq]; exact hw.began
  case counted => rw [hwaited, hw.counted, Finset.sum_Ico_succ_top hpn, hcore]; rfl
  case within =>
    rw [hbound]
    by_cases hw2 : (ρ n).seq.uPC = .w2
    · have hnext : ∀ q ∈ waitMoves, q.1 = .w2 → q.2 = .w3 := by decide
      have hsoon := hs.core_soon h hn hcore
      have hwithin := hw.within
      rw [if_neg (by simp [hw2])] at hwithin
      rw [if_pos (hnext _ hgoesOn.move hw2)]
      linarith
    · have hsample := hw.sample_within h hs hn hcore hwait (hgoesOn.below hw2)
      split_ifs <;> linarith

/-- In a busy-wait the next CORE step is in time. -/
theorem WaitsSince.inTime {p : Nat} (hw : WaitsSince f δ σ ρ τ a p j n)
    (hseconds : stageSeconds f δ (ρ a) (stagesLeft (ρ n).seq) =
      (waitBound (ρ n)).toNat / f + waitSlack δ (ρ n).seq.uPC) :
    τ j + δ ≤ τ a + deadline f δ (ρ a) (stagesLeft (ρ n).seq) := by
  have hbegan := hw.began
  have hwithin := hw.within
  have hslack := latency_le_waitSlack h.latency_nonneg (ρ n).seq.uPC
  linarith

/-- A CORE step that leaves its stage is in time, and a busy-wait it begins is the step's own. -/
theorem OnSchedule.next_stage (hs : OnSchedule f δ σ ρ τ a j n) (hn : n ≤ m) (hcore : σ n = .core)
    (hlt : stagesLeft (ρ (n + 1)).seq < stagesLeft (ρ n).seq)
    (hbegins : (ρ (n + 1)).seq.uPC ∈ waitLabels → waited (ρ (n + 1)) = 0) :
    τ n + δ ≤ τ a + deadline f δ (ρ a) (stagesLeft (ρ (n + 1)).seq) ∧
    ((ρ (n + 1)).seq.uPC ∈ waitLabels → WaitsSince f δ σ ρ τ a n n (n + 1)) := by
  have hf := h.rate_nonneg
  have hδ := h.latency_nonneg
  have hsoon := hs.core_soon h hn hcore
  have hdeadline := hs.inTime
  have hlater := deadline_add_le (c := ρ a) hf hδ hlt (stagesLeft_lt _)
  have hlatency := latency_le_stageSeconds (c := ρ a) hf hδ (stagesLeft (ρ (n + 1)).seq)
  refine ⟨by linarith, fun hwait => ⟨le_rfl, by linarith, ?_, ?_⟩⟩
  · rw [hbegins hwait, Finset.Ico_self, Finset.sum_empty]
    rfl
  · rw [sub_self]
    split_ifs <;> positivity

/-- A CORE step after which the command still runs keeps the schedule, going on with its busy-wait or leaving its
stage. -/
theorem OnSchedule.core (hs : OnSchedule f δ σ ρ τ a j n) (hn : n < m) (hcore : σ n = .core) :
    OnSchedule f δ σ ρ τ a n (n + 1) := by
  have hissued := hs.issued
  have hbefore := hs.before
  have hbusy := h.busy n (by omega) hn.le
  have hruns := h.busy (n + 1) (by omega) hn
  have hstep : perform .core (ρ n) = .next (ρ (n + 1)) := hcore ▸ h.run n
  have hinv := turn_keeps_blockInv hs.inv (turn_of_perform hstep)
  obtain ⟨hclk, hto⟩ := core_keeps_config hstep
  have hclk := hclk.trans hs.clkHz
  have hto := hto.trans hs.timeoutUs
  obtain ⟨hinTime, hwaiting⟩ : τ n + δ ≤ τ a + deadline f δ (ρ a) (stagesLeft (ρ (n + 1)).seq) ∧
      ((ρ (n + 1)).seq.uPC ∈ waitLabels → ∃ p, WaitsSince f δ σ ρ τ a p n (n + 1)) := by
    obtain hgoesOn | hlt := core_waits_or_stages_lt hs.inv hbusy hstep hruns
    · have hlabels : ∀ q ∈ waitMoves, q.1 ∈ waitLabels ∧ q.2 ∈ waitLabels := by decide
      obtain ⟨hwait, hwait'⟩ := hlabels _ hgoesOn.move
      obtain ⟨p, hw⟩ := hs.waiting hwait
      have hw' := hw.core h hs hn.le hcore hwait hgoesOn
      obtain ⟨-, hseconds, -⟩ := h.wait_seconds hinv hclk hto hwait'
      exact ⟨hw'.inTime h hseconds, fun _ => ⟨p, hw'⟩⟩
    · have hbegins hwait := (core_waits_or_begins hbusy hstep hruns hwait).resolve_left
        fun hgoesOn => hlt.ne hgoesOn.stagesLeft_eq
      exact (hs.next_stage h hn.le hcore hlt hbegins).imp_right fun hw hwait => ⟨n, hw hwait⟩
  exact {
    inv := hinv
    clkHz := hclk
    timeoutUs := hto
    issued := hissued.trans hbefore.le
    before := Nat.lt_succ_self n
    source := .inl hcore
    quiet := by omega
    inTime := hinTime
    waiting := hwaiting }

/-- A command is on schedule at every step up to `m`. -/
theorem TimedCommand.onSchedule (han : a < n) (hn : n ≤ m) : ∃ j, OnSchedule f δ σ ρ τ a j n := by
  induction n, han using Nat.le_induction with
  | base => exact ⟨a, onSchedule_of_issue h (h.busy _ (Nat.lt_succ_self a) hn)⟩
  | succ n han ih =>
    obtain ⟨j, hs⟩ := ih (by omega)
    by_cases hcore : σ n = .core
    · exact ⟨n, hs.core h hn hcore⟩
    · exact ⟨j, hs.other h hn hcore⟩

end

/-- Settles O55: a CORE step comes within a latency of the one before, which is on schedule, and no deadline is later
than that of the last stage. The deadlines count every stage there is, so the bound holds of every command. -/
theorem measureEndsWithinItsSeconds : Obligations.MeasureEndsWithinItsSeconds := by
  intro f g δ σ ρ τ a m n bound hrun hclocks hlatency hinv ⟨hclk, _⟩ ham hidle hbusy _ hcore hn hbound hfits
  subst hn hbound
  have h : TimedCommand f g δ σ ρ τ a m :=
    ⟨hrun, hclocks, hlatency, hinv, hclk, hidle, hbusy, ham, hcore, hfits⟩
  obtain ⟨j, hs⟩ := h.onSchedule ham le_rfl
  have hsoon := hs.core_soon h le_rfl hcore
  have hinTime := hs.inTime
  have hlast := deadline_le (c := ρ a) h.rate_nonneg h.latency_nonneg (stagesLeft (ρ m).seq)
  linarith

end Sys2Proof.Machine
end

section
/-! Register writes to a running block (spec/20_memory.md R65, spec/60_exceptions.md R204). -/

namespace Sys2Proof.Machine

theorem regWrite_writable_busy {i : Slot} {s : State} (v : Word) (hi : i ∈ [(0 : Slot), 2, 3, 4, 5])
    (hbusy : s.status.busy = true) : regWrite i v s = protocolViolation s := by
  simp only [List.mem_cons, List.not_mem_nil, or_false] at hi
  obtain rfl | rfl | rfl | rfl | rfl := hi <;> simp [regWrite, whenIdle_busy _ hbusy]

theorem unwritable_slots :
    ∀ i ∈ [(1 : Slot), 6, 7, 8, 9, 10, 11, 12, 13, 14, 15], i ∈ [(1 : Slot), 6, 7, 8, 9] ∨ 10 ≤ i.val := by
  decide

/-- Settles O5: while BUSY = 1 the five writable slots answer with a protocol violation, no write reaches the others,
and a read changes the host alone. -/
theorem writeWhileBusyOnlySetsFault : Obligations.WriteWhileBusyOnlySetsFault := by
  intro s i v hbusy
  refine ⟨fun hwritable => ?_, fun hunwritable => ?_, fun t hread => ?_⟩
  · exact congrArg Host.Outcome.next (regWrite_writable_busy v hwritable hbusy)
  · exact congrArg Host.Outcome.next (regWrite_unwritable v s (unwritable_slots i hunwritable))
  · cases hread
    rfl

end Sys2Proof.Machine
end

section
/-! The reset event from every state (spec/70_reset_and_hazards.md R240). -/

namespace Sys2Proof.Machine

/-- Settles O15: the event is `resetBlock` whatever the state, so a running command is no case of its own. -/
theorem resetEventAbandonsAnyCommand : Obligations.ResetEventAbandonsAnyCommand := by
  intro s
  exact ⟨resetBlock s, rfl, resetBlock_status s, resetBlock_regs s, resetBlock_seq s, rfl,
    resetBlock_world s⟩

end Sys2Proof.Machine
end

section
/-! A stopped cycle counter: CORE's turns alone end neither a pulse nor a wait (spec/70_reset_and_hazards.md R251). -/

namespace Sys2Proof.Machine

/-! ### The pulse -/

/-- In the pulse N is not 0: the clock has at least one cycle in a microsecond (R50, R52). -/
theorem BlockInv.pulse_limit_pos {s : State} (h : BlockInv s) (hs : s.seq.uPC ∈ [Label.t1, .t2, .t3, .t4]) :
    0 < s.seq.n.toNat := by
  obtain ⟨hclk, hn⟩ := h.pulse_limit hs
  omega

/-- A T3 below N is a fixed point of CORE's turns. -/
theorem coreTurns_at_t3 {i : Instr} {s : State} (hbusy : s.status.busy = true) (hi : runningCommand s = some i)
    (hpulse : i ∈ [Instr.trigger, .measureUs, .measureCm]) (hpc : s.seq.uPC = .t3)
    (hbelow : s.ext.cyccnt.toNat < s.seq.n.toNat) (k : Nat) : runActions (coreTurns k) s = .next s := by
  have hstays : perform .core s = .next s := (coreTurn_busy hbusy hi).trans (exec_at_t3_waiting hpulse hpc hbelow)
  induction k with
  | zero => rfl
  | succ k ih => exact (runActions_cons hstays).trans ih

/-- T2 restarts the counter, which then stands below N at every T3. -/
theorem coreTurns_from_t2 {s : State} (h : BlockInv s) (hpc : s.seq.uPC = .t2) (k : Nat) :
    runActions (coreTurns (k + 1)) s = .next { s with ext.cyccnt := 0, seq.uPC := .t3 } := by
  have hs : s.seq.uPC ∈ [Label.t1, .t2, .t3, .t4] := by simp [hpc]
  have hbusy := busy_of_label h hs (by decide)
  obtain ⟨i, hi, hr⟩ := h.running hbusy
  have hpulse := pulse_label_command hr.label hs
  have hrestart : perform .core s = .next (setPc .t3 (cycReset s)) :=
    (coreTurn_busy hbusy hi).trans (exec_at_t2 hpulse hpc)
  exact (runActions_cons hrestart).trans
    (coreTurns_at_t3 (s := setPc .t3 (cycReset s)) hbusy hi hpulse rfl (h.pulse_limit_pos hs) k)

/-! ### The wait -/

section
variable {i : Instr} {s : State} (hbusy : s.status.busy = true) (hi : runningCommand s = some i)
  (hwaits : i ∈ waiters s.seq.lvl) (hpc : s.seq.uPC = .w2) (hline : s.ext.echoLine ≠ s.seq.lvl)
  (hbelow : (s.ext.cyccnt - s.seq.c0).toNat < s.seq.toCyc.toNat)
include hbusy hi hwaits hpc hline hbelow

/-- W2 misses, W3 finds the bound ahead: two turns note the sample and lead back to W2. -/
theorem runActions_wait_round (as : List AgentAction) :
    runActions (.core :: .core :: as) s = runActions as (noteEcho s.ext.echoLine s) := by
  have hw2 : perform .core s = .next (setPc .w3 (noteEcho s.ext.echoLine s)) :=
    (coreTurn_busy hbusy hi).trans (exec_at_w2_miss hwaits hpc hline)
  have hw3 : perform .core (setPc .w3 (noteEcho s.ext.echoLine s)) =
      .next (setPc .w2 (noteEcho s.ext.echoLine s)) :=
    (coreTurn_busy (s := setPc .w3 (noteEcho s.ext.echoLine s)) hbusy hi).trans (exec_at_w3_early hwaits rfl hbelow)
  rw [runActions_cons hw2, runActions_cons hw3, setPc_self (s := noteEcho s.ext.echoLine s) hpc]

/-- A W2 whose sample is noted already is a fixed point of an even number of CORE's turns. -/
theorem coreTurns_after_sample (k : Nat) :
    runActions (coreTurns (2 * k)) (noteEcho s.ext.echoLine s) = .next (noteEcho s.ext.echoLine s) := by
  induction k with
  | zero => rfl
  | succ k ih =>
    exact (runActions_wait_round (s := noteEcho s.ext.echoLine s) hbusy hi hwaits hpc hline hbelow
      (coreTurns (2 * k))).trans ih

end

/-- Settles O47: after T2 the command stays at T3, and once a sample is noted W2 and W3 lead back to it. -/
theorem stoppedCounterHangs : Obligations.StoppedCounterHangs := by
  constructor
  case left =>
    intro s k h hpc
    exact ⟨coreTurns_from_t2 h hpc k, (h.trig_high (by simp [hpc])).1, busy_of_label (ls := [.t2]) h (by simp [hpc])
      (by decide)⟩
  case right =>
    intro s k h hpc hline hbelow
    have hs : s.seq.uPC ∈ [Label.w1, .w2, .w3] := by simp [hpc]
    have hbusy := busy_of_label h hs (by decide)
    obtain ⟨i, hi, hr⟩ := h.running hbusy
    have hwaits := mem_waiters hi hr.label hs
    have hfirst := runActions_wait_round hbusy hi hwaits hpc hline hbelow (coreTurns (2 * k))
    exact ⟨hfirst.trans (coreTurns_after_sample hbusy hi hwaits hpc hline hbelow k), hbusy⟩

end Sys2Proof.Machine
end
